-- ==== Sys2Proof/Word.lean ====
section
/-! DEFINITION. The plain value types of the Igmor 7312: octets and the numbers that name station
objects. The manual treats only octets, the check register and the drive identity as bits; every
quantity it adds or compares (levels in mm, discharge in L/s, power in kW, times) is a `Nat` or an
`Int`. -/

namespace Sys2Proof

/-- One octet of the station ring (R158). -/
abbrev Octet := BitVec 8

/-- Unit `n` of the manual (1 to 12) is the index `n - 1` (00_scope, Station objects). -/
abbrev UnitId := Fin 12

/-- Gauge 0 to 15 (00_scope, Station objects). -/
abbrev GaugeId := Fin 16

/-- Measuring points: index `b - 1` is the point of basin `b`, index 4 is the river point R. -/
abbrev PointId := Fin 5

/-- Basin `b` of the manual (1 to 4) is the index `b - 1`. -/
abbrev BasinId := Fin 4

/-- Pump type `t` of the manual (1 to 4) is the index `t - 1`. -/
abbrev TypeId := Fin 4

/-- A drive's 32-bit serial number (R60). -/
abbrev Identity := BitVec 32

end Sys2Proof
end

