-- ==== Sys2Proof/Syntax.lean ====
section
/-! DEFINITION. The commands of the Igmor 7312: one constructor for each row of
spec/opcode_table.json, with the operands the row's event brings from outside the controller.

Operands: a timer's expiry names the gauge, point or unit whose timer it is, by the manual's own
number; a telegram's taking carries the octets of the telegram; a management request carries its
payload, laid out as R185 gives it; a reset that reads the rate pins carries their levels. -/

namespace Sys2Proof

/-- One octet as the upstream port receives it: its eight data bits and the parity bit that came with them
(R158). Whether that bit is the right one is the Ring Port's to find (R159). -/
structure RxOctet where
  value : Octet
  parityBit : Bool
  deriving DecidableEq, Repr

/-- The four line rates the rate pins choose between (R158). -/
inductive LineRate where
  | baud38400
  | baud57600
  | baud115200
  | baud230400
  deriving DecidableEq, Repr

/-- The steps of the 7312, in the order of spec/opcode_table.json. -/
inductive Instr where
  /-- RECEIVE_TELEGRAM (R158 to R160): octets arrive on the upstream port. -/
  | receiveTelegram (octets : List RxOctet)
  /-- RECEIVE_SILENCE (R159): the upstream line has been silent for more than 3 octet times. -/
  | receiveSilence
  /-- CLASSIFICATION (R161 to R164): the head of the receive queue is taken. -/
  | classification
  /-- LEVEL_REPORT (R5 to R7): the Level Voter takes a LEVEL REPORT from node `src`. -/
  | levelReport (src : Octet) (payload : List Octet)
  /-- STALE_TIMER_EXPIRY (R8), of gauge 0 to 15. -/
  | staleTimerExpiry (gauge : Nat)
  /-- LOST_TIMER_EXPIRY (R14), of point 1 to 4, or 5 for R. -/
  | lostTimerExpiry (point : Nat)
  /-- GAUGE_POLL_TIMER_EXPIRY (R17). -/
  | gaugePollTimerExpiry
  /-- BACKGROUND_POLL_TIMEOUT (R19), of gauge 0 to 15. -/
  | backgroundPollTimeout (gauge : Nat)
  /-- DEMAND_POLL_TIMEOUT (R21), of gauge 0 to 15. -/
  | demandPollTimeout (gauge : Nat)
  /-- UNIT_REPORT (R70): the Unit Controller takes a UNIT REPORT from address `src`. -/
  | unitReport (src : Octet) (payload : List Octet)
  /-- UNIT_POLL_TIMER_EXPIRY (R68). -/
  | unitPollTimerExpiry
  /-- UNIT_POLL_TIMEOUT (R69), of unit 1 to 12. -/
  | unitPollTimeout (unit : Nat)
  /-- ORDER_REPLY_TIMEOUT (R89), of unit 1 to 12. -/
  | orderReplyTimeout (unit : Nat)
  /-- START_CONFIRM_EXPIRY (R78), of unit 1 to 12. -/
  | startConfirmExpiry (unit : Nat)
  /-- RESTAGE_CONFIRM_EXPIRY (R80), of unit 1 to 12. -/
  | restageConfirmExpiry (unit : Nat)
  /-- STOP_CONFIRM_EXPIRY (R81), of unit 1 to 12. -/
  | stopConfirmExpiry (unit : Nat)
  /-- REST_TIMER_EXPIRY (R76), of unit 1 to 12. -/
  | restTimerExpiry (unit : Nat)
  /-- MINIMUM_RUN_EXPIRY (R79), of unit 1 to 12. -/
  | minimumRunExpiry (unit : Nat)
  /-- ENROL_TAKE (R64): the Unit Controller takes an ENROL TAKE from address `src`. -/
  | enrolTake (src : Octet) (payload : List Octet)
  /-- ENROL_OFFER_RETURN (R65): the controller's own ENROL OFFER has come back. -/
  | enrolOfferReturn
  /-- ENROLMENT_TIMER_EXPIRY (R65). -/
  | enrolmentTimerExpiry
  /-- SUPPLY_LIMIT (R127, R128): the Limits Unit takes a SUPPLY LIMIT. -/
  | supplyLimit (payload : List Octet)
  /-- SUPPLY_SILENCE_EXPIRY (R129). -/
  | supplySilenceExpiry
  /-- PERMIT_SET (R133). -/
  | permitSet (payload : List Octet)
  /-- PERMIT_HOLD (R134). -/
  | permitHold (payload : List Octet)
  /-- PERMIT_RELEASE (R135). -/
  | permitRelease (payload : List Octet)
  /-- EVALUATION (R100, R101). -/
  | evaluation
  /-- CONFIRMING_END (R115). -/
  | confirmingEnd
  /-- WARNING_TIMER_EXPIRY (R117, R148). -/
  | warningTimerExpiry
  /-- SPACING_TIMER_EXPIRY (R96). -/
  | spacingTimerExpiry
  /-- HORN_REARM_EXPIRY (R150). -/
  | hornRearmExpiry
  /-- TABLE_WRITE_STATION (R175), payload as R185 lays it out. -/
  | tableWriteStation (payload : List Octet)
  /-- TABLE_WRITE_GAUGE (R1). -/
  | tableWriteGauge (payload : List Octet)
  /-- TABLE_WRITE_RIVER (R3). -/
  | tableWriteRiver (payload : List Octet)
  /-- TABLE_WRITE_BASIN (R45): the last part of a basin record. -/
  | tableWriteBasin (payload : List Octet)
  /-- TABLE_WRITE_TYPE (R26): the last part of a type record. -/
  | tableWriteType (payload : List Octet)
  /-- TABLE_WRITE_UNIT (R61). -/
  | tableWriteUnit (payload : List Octet)
  /-- TABLE_WRITE_PART (R187): a part of a record of several parts that is not its last. -/
  | tableWritePart (payload : List Octet)
  /-- TABLE_READ (R174). -/
  | tableRead (payload : List Octet)
  /-- MODE_SET (R142). -/
  | modeSet (payload : List Octet)
  /-- MANUAL_ORDER_START (R119). -/
  | manualOrderStart (payload : List Octet)
  /-- MANUAL_ORDER_RESTAGE_HIGH (R119). -/
  | manualOrderRestageHigh (payload : List Octet)
  /-- MANUAL_ORDER_RESTAGE_LOW (R146). -/
  | manualOrderRestageLow (payload : List Octet)
  /-- MANUAL_ORDER_STOP (R146, R120). -/
  | manualOrderStop (payload : List Octet)
  /-- MANUAL_ORDER_HALT (R146, R120). -/
  | manualOrderHalt (payload : List Octet)
  /-- UNIT_SERVICE_OUT (R91). -/
  | unitServiceOut (payload : List Octet)
  /-- UNIT_SERVICE_IN (R91). -/
  | unitServiceIn (payload : List Octet)
  /-- TRIP_CLEAR (R90). -/
  | tripClear (payload : List Octet)
  /-- STATION_QUERY (R176). -/
  | stationQuery (payload : List Octet)
  /-- POINT_QUERY (R176). -/
  | pointQuery (payload : List Octet)
  /-- UNIT_QUERY (R176). -/
  | unitQuery (payload : List Octet)
  /-- CONDITION_CLEAR (R179). -/
  | conditionClear (payload : List Octet)
  /-- COUNTER_READ with option NO (R181). -/
  | counterRead (payload : List Octet)
  /-- COUNTER_READ with option YES (R181). -/
  | counterReadClear (payload : List Octet)
  /-- ENROL_START, action START (R62). -/
  | enrolStart (payload : List Octet)
  /-- ENROL_START, action RELEASE (R66). -/
  | enrolRelease (payload : List Octet)
  /-- RESTART (R170). -/
  | restart (payload : List Octet)
  /-- LINE_IDLE_GRANT (R167): the downstream line falls idle. -/
  | lineIdleGrant
  /-- LEVEL_POLL_SENT (R18, R166). -/
  | levelPollSent
  /-- UNIT_POLL_SENT (R69, R166). -/
  | unitPollSent
  /-- UNIT_ORDER_SENT (R87, R166). -/
  | unitOrderSent
  /-- ENROL_OFFER_SENT (R63, R166). -/
  | enrolOfferSent
  /-- ENROL_RELEASE_SENT (R166). -/
  | enrolReleaseSent
  /-- FORWARDED_SENT (R166). -/
  | forwardedSent
  /-- REPLY_SENT (R166, R170). -/
  | replySent
  /-- RESTART_RELAY_CLOSE (R170), with the rate pins as they stand. -/
  | restartRelayClose (pins : LineRate)
  /-- RESET_HOLD_EXPIRY (R170). -/
  | resetHoldExpiry
  /-- BYPASS_RELAY_OPEN (R169). -/
  | bypassRelayOpen
  /-- RESET_INPUT (R169): the reset input is asserted, with the rate pins as they stand. -/
  | resetInput (pins : LineRate)
  /-- POWER_ON (R169), with the rate pins as they stand. -/
  | powerOn (pins : LineRate)
  /-- POWER_LOSS (R169). -/
  | powerLoss
  /-- RESET_INPUT_RELEASE (R169). -/
  | resetInputRelease
  deriving DecidableEq, Repr

end Sys2Proof
end

