-- ==== Sys2Proof/WellFormed.lean ====
section
/-! DEFINITION. Which commands are well formed: a timer's expiry names a gauge, point or unit the
station has (00_scope, Station objects), a telegram's payload has at most 48 octets (R158), and a
request's payload is one that the command's row takes. The rows of one kind share its payloads
among them: every payload of a management kind is taken by exactly one row of that kind. -/

namespace Sys2Proof

/-- A unit number of the station, 1 to 12. -/
def isUnitNumber (n : Nat) : Bool := decide (1 ≤ n) && decide (n ≤ 12)

/-- A gauge number of the station, 0 to 15. -/
def isGaugeNumber (n : Nat) : Bool := decide (n ≤ 15)

/-- A point as it is carried: 1 to 4 for the basins, 5 for R (10.1). -/
def isPointNumber (n : Nat) : Bool := decide (1 ≤ n) && decide (n ≤ 5)

/-- A payload that a frame can carry (R158). -/
def isPayload (p : List Octet) : Bool := decide (p.length ≤ 48)

/-- The octet at place `i` of a payload as a number, if the payload reaches that far. -/
def octetOf (p : List Octet) (i : Nat) : Option Nat := (p[i]?).map BitVec.toNat

/-- MANUAL ORDER payloads by their row (R185, 10.3): a payload that names no order, or has not the
length of the kind, belongs to MANUAL_ORDER_START. -/
def manualRow (p : List Octet) : Nat :=
  if p.length ≠ 3 then 1
  else match octetOf p 1, octetOf p 2 with
    | some 2, some 1 => 3
    | some 2, _ => 2
    | some 3, _ => 4
    | some 4, _ => 5
    | _, _ => 1

/-- TABLE WRITE payloads by their row (R174, R187): 0 for TABLE_WRITE_PART, else the table's number,
and 1 for a payload that names no table. -/
def tableWriteRow (p : List Octet) : Nat :=
  match octetOf p 0, octetOf p 2 with
  | some 4, some 1 => 0
  | some 5, some 1 => 0
  | some 5, some 2 => 0
  | some 2, _ => 2
  | some 3, _ => 3
  | some 4, _ => 4
  | some 5, _ => 5
  | some 6, _ => 6
  | _, _ => 1

/-- A payload of one octet 01h: option YES, or action RELEASE (10.2). -/
def isYes (p : List Octet) : Bool := decide (p = [1#8])

/-- A UNIT SERVICE payload with action 01h, in service (R185). -/
def isServiceIn (p : List Octet) : Bool := decide (p.length = 2) && decide (octetOf p 1 = some 1)

/-- Whether a command is one that its row's event can bring. -/
def Instr.wf : Instr → Bool
  | .receiveTelegram _ => true
  | .receiveSilence => true
  | .classification => true
  | .levelReport _ p => isPayload p
  | .staleTimerExpiry g => isGaugeNumber g
  | .lostTimerExpiry p => isPointNumber p
  | .gaugePollTimerExpiry => true
  | .backgroundPollTimeout g => isGaugeNumber g
  | .demandPollTimeout g => isGaugeNumber g
  | .unitReport _ p => isPayload p
  | .unitPollTimerExpiry => true
  | .unitPollTimeout u => isUnitNumber u
  | .orderReplyTimeout u => isUnitNumber u
  | .startConfirmExpiry u => isUnitNumber u
  | .restageConfirmExpiry u => isUnitNumber u
  | .stopConfirmExpiry u => isUnitNumber u
  | .restTimerExpiry u => isUnitNumber u
  | .minimumRunExpiry u => isUnitNumber u
  | .enrolTake _ p => isPayload p
  | .enrolOfferReturn => true
  | .enrolmentTimerExpiry => true
  | .supplyLimit p => isPayload p
  | .supplySilenceExpiry => true
  | .permitSet p => isPayload p
  | .permitHold p => isPayload p
  | .permitRelease p => isPayload p
  | .evaluation => true
  | .confirmingEnd => true
  | .warningTimerExpiry => true
  | .spacingTimerExpiry => true
  | .hornRearmExpiry => true
  | .tableWriteStation p => isPayload p && decide (tableWriteRow p = 1)
  | .tableWriteGauge p => isPayload p && decide (tableWriteRow p = 2)
  | .tableWriteRiver p => isPayload p && decide (tableWriteRow p = 3)
  | .tableWriteBasin p => isPayload p && decide (tableWriteRow p = 4)
  | .tableWriteType p => isPayload p && decide (tableWriteRow p = 5)
  | .tableWriteUnit p => isPayload p && decide (tableWriteRow p = 6)
  | .tableWritePart p => isPayload p && decide (tableWriteRow p = 0)
  | .tableRead p => isPayload p
  | .modeSet p => isPayload p
  | .manualOrderStart p => isPayload p && decide (manualRow p = 1)
  | .manualOrderRestageHigh p => isPayload p && decide (manualRow p = 2)
  | .manualOrderRestageLow p => isPayload p && decide (manualRow p = 3)
  | .manualOrderStop p => isPayload p && decide (manualRow p = 4)
  | .manualOrderHalt p => isPayload p && decide (manualRow p = 5)
  | .unitServiceOut p => isPayload p && !isServiceIn p
  | .unitServiceIn p => isPayload p && isServiceIn p
  | .tripClear p => isPayload p
  | .stationQuery p => isPayload p
  | .pointQuery p => isPayload p
  | .unitQuery p => isPayload p
  | .conditionClear p => isPayload p
  | .counterRead p => isPayload p && !isYes p
  | .counterReadClear p => isPayload p && isYes p
  | .enrolStart p => isPayload p && !isYes p
  | .enrolRelease p => isPayload p && isYes p
  | .restart p => isPayload p
  | .lineIdleGrant => true
  | .levelPollSent => true
  | .unitPollSent => true
  | .unitOrderSent => true
  | .enrolOfferSent => true
  | .enrolReleaseSent => true
  | .forwardedSent => true
  | .replySent => true
  | .restartRelayClose _ => true
  | .resetHoldExpiry => true
  | .bypassRelayOpen => true
  | .resetInput _ => true
  | .powerOn _ => true
  | .powerLoss => true
  | .resetInputRelease => true

end Sys2Proof
end

