-- ==== Sys2Proof/Config.lean ====
section
/-! DEFINITION. What an implementation of the 7312 fixes and this manual does not state: the free
values of the model. Each is an opaque constant, so that no proof can see what it is. -/

namespace Sys2Proof.Config

/-- The timings a type record gives the unit timers (R25). -/
inductive TimeField where
  | minimumRun
  | minimumRest
  | startConfirm
  | stopConfirm
  deriving DecidableEq, Repr

/-- FREE VALUE (log entry 9). The duration a unit timer is armed with when the unit's type record is
not in use. R76 and R81 arm the timer "of the unit's type", and R25 says that a record not in use
"holds no values that any block reads". The first argument is a counter that `State` holds and every
such arming advances, so that two armings need not agree. -/
opaque untypedTime : Nat → TimeField → Nat

/-- FREE VALUE (log entry 10). The four octets in which TABLE CONTENT carries the drive identity of a
unit record that holds none: R60 says that it is absent, and 10.5 gives its field no absent value. -/
opaque absentIdentity : Identity

end Sys2Proof.Config
end

