-- ==== Sys2Proof/Machine/State.lean ====
section
/-! DEFINITION. The state of the Igmor 7312 as plain data: the table store, the runtime state of its
eight blocks, its ports, pins and relay, and the queue of commands that wait. `State.reset` is the
machine right after the controller reset of first power. -/

namespace Sys2Proof.Machine

open Sys2Proof

/-! ## Stored records (the table store, R174) -/

/-- The station modes, in the order in which they are carried (10.1). -/
inductive Mode where
  | setup
  | auto
  | manual
  deriving DecidableEq, Repr

/-- The station record (R175). Times are in seconds, the reply timeout in milliseconds. -/
structure StationRec where
  startMode : Mode
  replyTimeout : Nat
  gaugePollInterval : Nat
  standbyPollInterval : Nat
  unitPollInterval : Nat
  ceiling : Nat
  fallbackBudget : Nat
  silenceTime : Nat
  defaultPermit : Nat
  hornWarning : Nat
  hornRearm : Nat
  startSpacing : Nat
  threshold : Nat
  deriving DecidableEq, Repr

/-- A gauge record (R1). Fields other than `inUse` are held as carried, since a record that is not in
use is stored unchecked: `point` is 1 to 4, or 5 for R, and `encoding` 0 BINARY, 1 DECIMAL. -/
structure GaugeRec where
  inUse : Bool
  node : Nat
  point : Nat
  encoding : Nat
  offset : Int
  validMin : Int
  validMax : Int
  staleAge : Nat
  deriving DecidableEq, Repr

/-- The river record (R3). -/
structure RiverRec where
  band : Nat
  holdTime : Nat
  fallback : Int
  deriving DecidableEq, Repr

/-- One slot of a basin record's step list (R44, 10.5). -/
structure Step where
  threshold : Int
  target : Nat
  deriving DecidableEq, Repr

/-- A basin record (R44). `overrideAllowed` is held as carried, 0 no, 1 yes. -/
structure BasinRec where
  inUse : Bool
  band : Nat
  holdTime : Nat
  hysteresis : Nat
  stopLevel : Int
  wakeLevel : Int
  criticalLevel : Int
  overrideAllowed : Nat
  emergency : Nat
  priority : Nat
  outletLoss : Nat
  blindStep : Nat
  stepCount : Nat
  steps : Vector Step 6
  deriving DecidableEq, Repr

/-- One point of a pump curve: head in mm, discharge in L/s, power in kW (R25). -/
structure CurvePoint where
  h : Nat
  q : Nat
  p : Nat
  deriving DecidableEq, Repr

/-- A type record (R25). -/
structure TypeRec where
  inUse : Bool
  stageCount : Nat
  highCount : Nat
  lowCount : Nat
  startPower : Nat
  minRun : Nat
  minRest : Nat
  startConfirm : Nat
  stopConfirm : Nat
  high : Vector CurvePoint 8
  low : Vector CurvePoint 8
  deriving DecidableEq, Repr

/-- A unit record (R60). -/
structure UnitRec where
  enrolled : Bool
  identity : Option Identity
  type : TypeId
  basin : BasinId
  inService : Bool
  startCount : Nat
  deriving DecidableEq, Repr

/-- The table store: it keeps its contents through every reset and every loss of power (R174). -/
structure Store where
  station : StationRec
  gauges : Vector GaugeRec 16
  river : RiverRec
  basins : Vector BasinRec 4
  types : Vector TypeRec 4
  units : Vector UnitRec 12
  deriving DecidableEq, Repr

/-! ## Level Voter (1.2) -/

/-- Sample status of a gauge (1.2). -/
inductive SampleStatus where
  | absent
  | fresh
  | stale
  | malformed
  | outOfRange
  deriving DecidableEq, Repr

/-- Health as the gauge last declared it (1.2, R186). -/
inductive Health where
  | unhealthy
  | healthy
  | unknown
  deriving DecidableEq, Repr

/-- Why a gauge is marked FAULTY (R12, R21). -/
inductive FaultyReason where
  | disagree
  | silent
  deriving DecidableEq, Repr

/-- The kind of a gauge poll outstanding (1.2). -/
inductive PollKind where
  | background
  | demand
  deriving DecidableEq, Repr

/-- Runtime state of a gauge (1.2). A timer is `none` while idle, else the duration it was armed
with. Whether an outstanding poll is due, queued, or transmitted and timed is told by the due list,
the poll queue and `replyTimer`. -/
structure GaugeRt where
  status : SampleStatus
  reading : Option Int
  level : Option Int
  health : Health
  age : Option Nat
  staleTimer : Option Nat
  disagree : Nat
  agree : Nat
  faulty : Option FaultyReason
  miss : Nat
  poll : Option PollKind
  replyTimer : Option Nat
  deriving DecidableEq, Repr

/-- Point states, in the order in which they are carried (1.2, 10.1). -/
inductive PointState where
  | unseen
  | full
  | reduced
  | disputed
  | degraded
  | lost
  deriving DecidableEq, Repr

/-- The values the Level Voter publishes for a point (R15). -/
structure PointPub where
  state : PointState
  level : Option Int
  holdExpired : Bool
  deriving DecidableEq, Repr

/-- Runtime state of a measuring point (1.2), with the values last published (R15). -/
structure PointRt where
  cur : PointPub
  lostTimer : Option Nat
  published : PointPub
  deriving DecidableEq, Repr

/-- Where the river level in use comes from (R16). -/
inductive RiverSource where
  | voted
  | held
  | fallback
  deriving DecidableEq, Repr

/-- The river level in use, as last published (R16). -/
structure RiverUse where
  level : Int
  source : RiverSource
  deriving DecidableEq, Repr

/-! ## Curve Evaluator (R28) -/

/-- Unit status of an estimate record (R28). -/
inductive EstStatus where
  | estimated
  | noType
  | noBasin
  deriving DecidableEq, Repr

/-- Where the basin term of a head comes from (R30). -/
inductive BasinSource where
  | voted
  | held
  | stopLevel
  deriving DecidableEq, Repr

/-- Stage status of an estimate, in the order of R28. -/
inductive StageStatus where
  | onCurve
  | clamped
  | beyondCurve
  | noCurve
  | noHead
  deriving DecidableEq, Repr

/-- The estimate of one stage (R28): discharge, power and stage status. -/
structure StageEst where
  q : Nat
  p : Nat
  status : StageStatus
  deriving DecidableEq, Repr

/-- The estimate record of an enrolled unit (R28). -/
structure Estimate where
  status : EstStatus
  head : Option Nat
  riverSource : Option RiverSource
  basinSource : Option BasinSource
  high : Option StageEst
  low : Option StageEst
  deriving DecidableEq, Repr

/-! ## Basin Demand (3.2 to 3.5) -/

/-- Level status of a basin (R48). -/
inductive LevelStatus where
  | voted
  | held
  | blind
  | unseen
  | none
  deriving DecidableEq, Repr

/-- Runtime state of a basin, which is also what Basin Demand last published (R57). -/
structure BasinRt where
  status : LevelStatus
  step : Nat
  target : Nat
  override : Bool
  blind : Bool
  atCritical : Bool
  dry : Bool
  atWake : Bool
  deriving DecidableEq, Repr

/-! ## Unit Controller (4.2) -/

/-- Unit states, in the order in which they are carried (4.2, 10.1). -/
inductive UnitState where
  | vacant
  | unknown
  | outOfService
  | resting
  | ready
  | confirming
  | warning
  | starting
  | running
  | raising
  | lowering
  | stopping
  | tripped
  | missing
  | localControl
  deriving DecidableEq, Repr

/-- The speed stages (00_scope). -/
inductive Stage where
  | low
  | high
  deriving DecidableEq, Repr

/-- Who commands the drive (4.5). -/
inductive Place where
  | remote
  | panel
  deriving DecidableEq, Repr

/-- Motion of a drive (4.5). -/
inductive Motion where
  | stopped
  | accelerating
  | runLow
  | runHigh
  | decelerating
  deriving DecidableEq, Repr

/-- Order outcome of a report (4.5). -/
inductive OrderOutcome where
  | none
  | taken
  | declined
  deriving DecidableEq, Repr

/-- The four fields of a UNIT REPORT (4.5). -/
structure Report where
  place : Place
  motion : Motion
  trip : Nat
  outcome : OrderOutcome
  deriving DecidableEq, Repr

/-- Why a unit is TRIPPED (4.2). -/
inductive TripReason where
  | driveTrip (code : Nat)
  | startFailed
  | raiseFailed
  | lowerFailed
  | stopFailed
  deriving DecidableEq, Repr

/-- The minimum run timer (4.2). -/
inductive MinRun where
  | idle
  | running (duration : Nat)
  | elapsed
  deriving DecidableEq, Repr

/-- The four orders (4.7). -/
inductive Order where
  | start (x : Stage)
  | restage (x : Stage)
  | stop
  | halt
  deriving DecidableEq, Repr

/-- An order transmitted and awaiting its answer, with its reply timer (4.2, R87). -/
structure InFlight where
  order : Order
  timer : Nat
  deriving DecidableEq, Repr

/-- Runtime state of a unit (4.2). The queued order is the unit's place in the order queue, and a
poll that is due or queued stands in the due list or the poll queue; neither is held twice. -/
structure UnitRt where
  state : UnitState
  stage : Option Stage
  lastReport : Option Report
  trip : Option TripReason
  minRun : MinRun
  restTimer : Option Nat
  confirmTimer : Option Nat
  inFlight : Option InFlight
  pendingOrder : Option Order
  pollTimer : Option Nat
  miss : Nat
  est : Option Estimate
  deriving DecidableEq, Repr

/-- Enrolment states (R62). -/
inductive EnrolState where
  | idle
  | offering
  | waiting
  deriving DecidableEq, Repr

/-- The enrolment state, the offered unit and the 2 s timer (R62, R63). -/
structure Enrolment where
  state : EnrolState
  offered : Option UnitId
  timer : Option Nat
  deriving DecidableEq, Repr

/-! ## Dispatch Engine (5.1, 5.2) -/

/-- Purpose of a held allowance (R95). -/
inductive Purpose where
  | start
  | raise
  deriving DecidableEq, Repr

/-- The start allowance (R95). -/
inductive Allowance where
  | free
  | held (unit : UnitId) (purpose : Purpose)
  | spacing
  deriving DecidableEq, Repr

/-- The candidate record (R97); its phase follows the unit's state. -/
structure Candidate where
  unit : UnitId
  stage : Stage
  confirm : List GaugeId
  deriving DecidableEq, Repr

/-- The Dispatch Engine's own state (5.1, 5.2, R107). `stack` runs from bottom to top. -/
structure Engine where
  stack : List UnitId
  allowance : Allowance
  candidate : Option Candidate
  spacingTimer : Option Nat
  budgetUnmet : Bool
  permitUnmet : Bool
  deriving DecidableEq, Repr

/-! ## Limits Unit (6.2, 6.4) -/

/-- Supply state (R126). -/
inductive SupplyState where
  | awaiting
  | current
  | silent
  deriving DecidableEq, Repr

/-- Source of the permit value (6.4). -/
inductive PermitSource where
  | default
  | permitNode
  deriving DecidableEq, Repr

/-- The Limits Unit's state: `budget` is B and `cap` is C (6.2, 6.4). -/
structure Limits where
  supplyLimit : Nat
  supplyState : SupplyState
  silenceTimer : Option Nat
  budget : Nat
  permit : Nat
  permitSource : PermitSource
  hold : Bool
  cap : Nat
  deriving DecidableEq, Repr

/-! ## Station Control (7.2 to 7.5, 9.4, 9.5) -/

/-- The thirteen conditions (R177). -/
inductive Condition where
  | basinCritical
  | unitTripped
  | budgetUnmet
  | permitUnmet
  | pointLost
  | unitSilent
  | supplySilent
  | gaugeFault
  | pointDisputed
  | holdActive
  | ringFault
  | foreignOrder
  | enrolmentDone
  deriving DecidableEq, Repr

/-- The seven counters (R181). -/
structure Counters where
  lineFaults : Nat
  receiveOverruns : Nat
  forwarded : Nat
  blockedOrders : Nat
  originRefusals : Nat
  skippedPolls : Nat
  droppedAttentions : Nat
  deriving DecidableEq, Repr

/-- The write assembly, when it is not empty: a record and its parts 1 to j in order (R187). -/
structure Assembly where
  table : Nat
  record : Nat
  parts : List (List Octet)
  deriving DecidableEq, Repr

/-- Station Control's state. `idle` is the idle state the Dispatch Engine last reported (R99, R150). -/
structure Station where
  mode : Mode
  standby : Bool
  idle : Bool
  conditions : Vector Bool 13
  counters : Counters
  assembly : Option Assembly
  deriving DecidableEq, Repr

/-- The horn line, the horn-required flag and the two horn timers (7.4). -/
structure Horn where
  line : Bool
  required : Bool
  warningTimer : Option Nat
  rearmTimer : Option Nat
  deriving DecidableEq, Repr

/-- The gauge poll timer and the unit poll timer (R17, R68). -/
structure PollTimers where
  gauge : Option Nat
  unit : Option Nat
  deriving DecidableEq, Repr

/-! ## Ring Port (chapter 8) -/

/-- A telegram as its fields (10.1). -/
structure Telegram where
  dest : Octet
  src : Octet
  kind : Octet
  payload : List Octet
  deriving DecidableEq, Repr

/-- A collection in progress (R158, R159): the octets kept since the start octet, whether any octet
taken had wrong parity, and the number of octets taken and not kept, which a LENGTH fault alone makes. -/
structure Collector where
  octets : List Octet
  parityBad : Bool
  unkept : Nat
  deriving DecidableEq, Repr

/-- The four fault flags of a receive queue entry (R159). -/
structure RxFlags where
  parity : Bool
  length : Bool
  truncated : Bool
  check : Bool
  deriving DecidableEq, Repr

/-- A receive queue entry (R160): the header octets received (destination, source, kind, length),
the payload received, and the fault flags. -/
structure RxEntry where
  header : List Octet
  payload : List Octet
  flags : RxFlags
  deriving DecidableEq, Repr

/-- What an order queue entry carries (R86, R63, R66). -/
inductive OrderItem where
  | unitOrder (unit : UnitId) (order : Order)
  | offer (unit : UnitId)
  | release
  deriving DecidableEq, Repr

/-- An order queue entry. `sending` marks the one whose transmission has begun (R165); `dropped`
marks a unit order on the line whose unit has lost its enrolment (R67, log entry 16). `haltTurn` is the
model's own: it tells which HALT was deposited first, and is 0 on every other entry (R167, log entry 42). -/
structure OrderEntry where
  item : OrderItem
  sending : Bool
  dropped : Bool
  haltTurn : Nat
  deriving DecidableEq, Repr

/-- Whom a poll asks (R18). -/
inductive PollTarget where
  | gauge (g : GaugeId)
  | unit (u : UnitId)
  deriving DecidableEq, Repr

/-- A poll queue entry: its target, the node it is sent to, and whether the poll is still
outstanding (R2, R67). -/
structure PollEntry where
  target : PollTarget
  node : Octet
  live : Bool
  deriving DecidableEq, Repr

/-- A reply queue entry; `restart` marks the ACCEPTED of the RESTART under way (R170). -/
structure ReplyEntry where
  telegram : Telegram
  restart : Bool
  deriving DecidableEq, Repr

/-- The four outbound queues, in the order of the rotation (R167). -/
inductive QueueName where
  | forward
  | order
  | poll
  | reply
  deriving DecidableEq, Repr

/-- The downstream line: idle, carrying a telegram of a queue, or in the 4 octet times of silence
that follow each telegram (R167, R168). -/
inductive Line where
  | idle
  | sending (queue : QueueName) (telegram : Telegram)
  | gap
  deriving DecidableEq, Repr

/-- The Ring Port's queues, the poll due list in its three parts, the line and the rotation pointer
(R160, R165, R167, R18). `delivered` holds the telegrams handed to their owner blocks and not yet
taken by them (R161, log entry 1). `replyHeld` is the model's own: it is set only inside the taking of a
management request, while the answer keeps its place in the reply queue but is not yet deposited (R172,
log entry 37). -/
structure Ring where
  collecting : Option Collector
  rx : List RxEntry
  delivered : List Telegram
  forward : List Telegram
  orders : List OrderEntry
  polls : List PollEntry
  replies : List ReplyEntry
  replyHeld : Bool
  demandDue : List GaugeId
  unitDue : List UnitId
  backgroundDue : List GaugeId
  line : Line
  rotation : QueueName
  deriving DecidableEq, Repr

/-- How far an accepted RESTART has come (R170). -/
inductive RestartPhase where
  | none
  | accepted
  | replied
  deriving DecidableEq, Repr

/-- Power, the reset input, the 100 ms reset hold, the bypass relay and the rate pins (R158, R169 to
R171). `ratePins` are the levels the pins last stood at, `lineRate` the rate read at the last reset. -/
structure Board where
  powered : Bool
  resetInput : Bool
  resetHold : Bool
  relayClosed : Bool
  restart : RestartPhase
  ratePins : LineRate
  lineRate : LineRate
  deriving DecidableEq, Repr

/-! ## The machine -/

/-- The whole state of the 7312. `evalDue` counts the triggers of R100 whose evaluation has not been
taken. `freeCount` is the model's own: the counter the free values of Config are applied to. -/
structure State where
  pending : List Instr
  store : Store
  gauges : Vector GaugeRt 16
  points : Vector PointRt 5
  riverUse : RiverUse
  basins : Vector BasinRt 4
  units : Vector UnitRt 12
  enrol : Enrolment
  engine : Engine
  evalDue : Nat
  limits : Limits
  station : Station
  horn : Horn
  pollTimers : PollTimers
  ring : Ring
  board : Board
  freeCount : Nat
  deriving DecidableEq, Repr

/-- Why the machine stops with a fault. Only an ill-formed command stops it: one that names an object
the station does not have (00_scope, Station objects). -/
inductive Fault where
  /-- Raised by a timer's expiry that names a unit other than 1 to 12. Safe: no such timer exists. -/
  | noSuchUnit (n : Nat)
  /-- Raised by a timer's expiry that names a gauge other than 0 to 15. Safe: no such timer exists. -/
  | noSuchGauge (n : Nat)
  /-- Raised by a timer's expiry that names a point other than 1 to 5. Safe: no such timer exists. -/
  | noSuchPoint (n : Nat)
  deriving DecidableEq, Repr

/-- Why a command has no meaning. -/
inductive Refusal where
  /-- Raised by `exec` for a row that has no meaning yet: none is left. Safe. -/
  | notModelled (mnemonic : String)
  deriving DecidableEq, Repr

/-! ## First power (R60, R174, R175) and the reset state -/

/-- The station record at first power (R175). -/
def StationRec.firstPower : StationRec where
  startMode := .setup
  replyTimeout := 100
  gaugePollInterval := 5
  standbyPollInterval := 60
  unitPollInterval := 2
  ceiling := 0
  fallbackBudget := 0
  silenceTime := 30
  defaultPermit := 0
  hornWarning := 30
  hornRearm := 900
  startSpacing := 20
  threshold := 6

/-- A gauge record at first power: not in use (R1). DESIGN CHOICE (log entry 13): its unread fields
are 0, the point carried as 0. -/
def GaugeRec.firstPower : GaugeRec := ⟨false, 0, 0, 0, 0, 0, 0, 0⟩

/-- The river record at first power (R3). -/
def RiverRec.firstPower : RiverRec := ⟨0, 0, 0⟩

/-- A basin record at first power: not in use (R44). DESIGN CHOICE (log entry 13): its unread fields
are 0. -/
def BasinRec.firstPower : BasinRec where
  inUse := false
  band := 0
  holdTime := 0
  hysteresis := 0
  stopLevel := 0
  wakeLevel := 0
  criticalLevel := 0
  overrideAllowed := 0
  emergency := 0
  priority := 0
  outletLoss := 0
  blindStep := 0
  stepCount := 0
  steps := Vector.replicate 6 ⟨0, 0⟩

/-- A type record at first power: not in use (R25). DESIGN CHOICE (log entry 13): its unread fields
are 0. -/
def TypeRec.firstPower : TypeRec where
  inUse := false
  stageCount := 0
  highCount := 0
  lowCount := 0
  startPower := 0
  minRun := 0
  minRest := 0
  startConfirm := 0
  stopConfirm := 0
  high := Vector.replicate 8 ⟨0, 0, 0⟩
  low := Vector.replicate 8 ⟨0, 0, 0⟩

/-- A unit record at first power (R60): type 1, basin 1. -/
def UnitRec.firstPower : UnitRec where
  enrolled := false
  identity := none
  type := 0
  basin := 0
  inService := true
  startCount := 0

/-- The table store at first power (R174). -/
def Store.firstPower : Store where
  station := StationRec.firstPower
  gauges := Vector.replicate 16 GaugeRec.firstPower
  river := RiverRec.firstPower
  basins := Vector.replicate 4 BasinRec.firstPower
  types := Vector.replicate 4 TypeRec.firstPower
  units := Vector.replicate 12 UnitRec.firstPower

/-- A gauge's runtime state after a reset or a write of its record (R2, R23). -/
def GaugeRt.initial : GaugeRt where
  status := .absent
  reading := none
  level := none
  health := .unknown
  age := none
  staleTimer := none
  disagree := 0
  agree := 0
  faulty := none
  miss := 0
  poll := none
  replyTimer := none

/-- A point that is UNSEEN with no voted level and its hold-expired flag clear (R23). -/
def PointPub.unseen : PointPub := ⟨.unseen, none, false⟩

/-- A point after a reset, its lost timer idle (R23). -/
def PointRt.unseen : PointRt := ⟨.unseen, none, .unseen⟩

/-- A basin not in use (R47, R58). -/
def BasinRt.notInUse : BasinRt := ⟨.none, 0, 0, false, false, false, false, false⟩

/-- A unit with its runtime state afresh, in the state given (R64, R92). -/
def UnitRt.fresh (state : UnitState) : UnitRt where
  state := state
  stage := none
  lastReport := none
  trip := none
  minRun := .idle
  restTimer := none
  confirmTimer := none
  inFlight := none
  pendingOrder := none
  pollTimer := none
  miss := 0
  est := none

/-- The counters at 0 (R182). -/
def Counters.zero : Counters := ⟨0, 0, 0, 0, 0, 0, 0⟩

/-- The machine right after the controller reset of first power, ready and with the bypass relay still
closed (R169). The river record's lost hold time is 0 at first power, so the reset arms the river's
lost timer with 0: its hold-expired flag is set at once (R14), which is published as a change (R23)
and so is a trigger, and POINT LOST is pending and announced (R182; DEDUCED, log entry 39). DESIGN
CHOICE (log entry 23): the rate pins stand at 115200 baud. -/
def State.reset : State where
  pending := []
  store := Store.firstPower
  gauges := Vector.replicate 16 GaugeRt.initial
  points := (Vector.replicate 5 PointRt.unseen).set 4
    ⟨⟨.unseen, none, true⟩, none, ⟨.unseen, none, true⟩⟩
  riverUse := ⟨0, .fallback⟩
  basins := Vector.replicate 4 BasinRt.notInUse
  units := Vector.replicate 12 (UnitRt.fresh .vacant)
  enrol := ⟨.idle, none, none⟩
  engine := ⟨[], .free, none, none, false, false⟩
  evalDue := 1
  limits := ⟨0, .awaiting, some 30, 0, 0, .default, false, 0⟩
  station :=
    { mode := .setup
      standby := false
      idle := true
      conditions := (Vector.replicate 13 false).set 4 true
      counters := Counters.zero
      assembly := none }
  horn := ⟨false, true, none, some 900⟩
  pollTimers := ⟨some 5, some 2⟩
  ring :=
    { collecting := none
      rx := []
      delivered := []
      forward := []
      orders := []
      polls := []
      replies := [⟨⟨48#8, 63#8, 0x6F#8, [5#8, 0#8, 16#8]⟩, false⟩]
      replyHeld := false
      demandDue := []
      unitDue := []
      backgroundDue := []
      line := .idle
      rotation := .reply }
  board :=
    { powered := true
      resetInput := false
      resetHold := false
      relayClosed := true
      restart := .none
      ratePins := .baud115200
      lineRate := .baud115200 }
  freeCount := 0

end Sys2Proof.Machine
end

