-- ==== Sys2Proof/Machine/Operands.lean ====
section
/-! DEFINITION. How operands are carried: numbers in octets, the check, the frame and the kind codes
(R158, R183, R184), the fields of the field telegrams (R5, R6, 10.3), the packed fields of the status
answers (R186), and the layouts of the six table records with their parts (10.5, R187). -/

namespace Sys2Proof.Machine

open Sys2Proof

/-! ## Numbers in octets (10.1) -/

/-- The number that octets carry, high octet first (10.1). -/
def natOf (l : List Octet) : Nat := l.foldl (fun a o => a * 256 + o.toNat) 0

/-- The signed number that octets carry in two's complement, high octet first (10.1). -/
def intOf (l : List Octet) : Int :=
  if 2 * natOf l < 256 ^ l.length then (natOf l : Int) else (natOf l : Int) - (256 ^ l.length : Nat)

/-- A number in `k` octets, high octet first (10.1). -/
def natOctets : Nat → Nat → List Octet
  | 0, _ => []
  | k + 1, n => BitVec.ofNat 8 (n / 256 ^ k) :: natOctets k n

/-- A signed number in `k` octets, in two's complement (10.1). -/
def intOctets (k : Nat) (i : Int) : List Octet := natOctets k (i % (256 ^ k : Nat)).toNat

/-- The `n` octets of a payload from octet `off` on. -/
def slice (l : List Octet) (off n : Nat) : List Octet := (l.drop off).take n

/-- The number in the `n` octets from octet `off` on. -/
def numAt (l : List Octet) (off n : Nat) : Nat := natOf (slice l off n)

/-- The signed number in the `n` octets from octet `off` on. -/
def sgnAt (l : List Octet) (off n : Nat) : Int := intOf (slice l off n)

/-- Named values packed into `k` octets, the first named in the highest bits (R186): each field is its
width in bits and its value. Bits that no field names are 0 (DESIGN CHOICE, log entry 12). The octets are filled as
one number, so that a field may straddle two of them: in UNIT STATUS the drive's trip code, octets 3 and 4, and the
pending order, octets 9 and 10 (DESIGN CHOICE, log entry 44; unsafe). -/
def packed (k : Nat) (fields : List (Nat × Nat)) : List Octet :=
  let width := fields.foldl (fun a f => a + f.1) 0
  natOctets k (fields.foldl (fun a f => a * 2 ^ f.1 + f.2 % 2 ^ f.1) 0 * 2 ^ (8 * k - width))

/-- A field of two values: 00h for no, 01h for yes (10.1). -/
def boolBit (b : Bool) : Nat := if b then 1 else 0

/-- An absent unsigned value is carried as all ones of its `w` bits (10.1, log entry 11). -/
def orOnes (w : Nat) : Option Nat → Nat
  | some n => n
  | none => 2 ^ w - 1

/-- An absent signed value is carried as the most negative value of its `k` octets (10.1). -/
def orMostNegative (k : Nat) : Option Int → List Octet
  | some i => intOctets k i
  | none => intOctets k (-(256 ^ k / 2 : Nat))

/-! ## The check and the frame (R158) -/

/-- One bit of the division by x^16 + x^12 + x^5 + 1 (R158). -/
def checkBit (r : BitVec 16) : BitVec 16 := if r.msb then (r <<< 1) ^^^ 0x1021#16 else r <<< 1

/-- The check register after one more octet, taken most significant bit first (R158). -/
def checkOctet (r : BitVec 16) (o : Octet) : BitVec 16 :=
  (List.replicate 8 ()).foldl (fun a _ => checkBit a) (r ^^^ (o.zeroExtend 16 <<< 8))

/-- The check over octets, the register set to all ones before the first (R158). -/
def check (l : List Octet) : BitVec 16 := l.foldl checkOctet 0xFFFF#16

/-- The check as its two octets, high octet first (R158). -/
def checkOctets (l : List Octet) : List Octet := natOctets 2 (check l).toNat

/-- The start octet of every telegram (R158). -/
def startOctet : Octet := 0xD5#8

/-- Destination, source, kind, length and payload: the octets the check is taken over (R158). -/
def body (t : Telegram) : List Octet :=
  [t.dest, t.src, t.kind, BitVec.ofNat 8 t.payload.length] ++ t.payload

/-- A telegram's octets on the line, from its start octet to its last check octet (R158, R168). -/
def frame (t : Telegram) : List Octet := startOctet :: (body t ++ checkOctets (body t))

/-! ## The bits of an octet on the line (R158) -/

/-- The eight data bits of an octet, the least significant first (R158). -/
def dataBits (o : Octet) : List Bool := (List.range 8).map fun i => o.getLsbD i

/-- The odd parity bit of an octet: with it the number of ones among the nine bits is odd (R158). -/
def parityOf (o : Octet) : Bool := decide ((dataBits o).count true % 2 = 0)

/-- An octet as the controller sends it, with the parity bit of R158. -/
def sent (o : Octet) : RxOctet := ⟨o, parityOf o⟩

/-- Whether an octet was received with correct parity (R158, R159). -/
def parityOk (x : RxOctet) : Bool := decide (x.parityBit = parityOf x.value)

/-- The eleven bits of an octet on the line: a start bit of 0, the data bits with the least significant first,
the parity bit and a stop bit of 1 (R158; the levels of the start and stop bits, log entry 43). -/
def lineBits (x : RxOctet) : List Bool := false :: (dataBits x.value ++ [x.parityBit, true])

/-- The number that bits carry, the least significant first (R158). -/
def bitsValue : List Bool → Nat
  | [] => 0
  | b :: l => (if b then 1 else 0) + 2 * bitsValue l

/-- The octet that eleven bits of the line carry; none where they frame no octet (R158, log entry 43). -/
def octetOfBits : List Bool → Option RxOctet
  | [false, b0, b1, b2, b3, b4, b5, b6, b7, p, true] =>
    some ⟨BitVec.ofNat 8 (bitsValue [b0, b1, b2, b3, b4, b5, b6, b7]), p⟩
  | _ => none

/-- The bits of a telegram on the downstream line, octet after octet (R158, R168). -/
def telegramBits (t : Telegram) : List Bool := (frame t).flatMap fun o => lineBits (sent o)

/-! ## Kind codes (R184, R186) -/

def kindLevelPoll : Octet := 0x10#8
def kindLevelReport : Octet := 0x11#8
def kindUnitPoll : Octet := 0x20#8
def kindUnitOrder : Octet := 0x21#8
def kindUnitReport : Octet := 0x22#8
def kindEnrolOffer : Octet := 0x28#8
def kindEnrolTake : Octet := 0x29#8
def kindEnrolRelease : Octet := 0x2A#8
def kindSupplyLimit : Octet := 0x30#8
def kindPermitSet : Octet := 0x38#8
def kindPermitHold : Octet := 0x39#8
def kindPermitRelease : Octet := 0x3A#8
def kindTableWrite : Octet := 0x40#8
def kindTableRead : Octet := 0x41#8
def kindModeSet : Octet := 0x42#8
def kindManualOrder : Octet := 0x43#8
def kindUnitService : Octet := 0x44#8
def kindTripClear : Octet := 0x45#8
def kindStationQuery : Octet := 0x46#8
def kindPointQuery : Octet := 0x47#8
def kindUnitQuery : Octet := 0x48#8
def kindConditionClear : Octet := 0x49#8
def kindCounterRead : Octet := 0x4A#8
def kindEnrolStart : Octet := 0x4B#8
def kindRestart : Octet := 0x4C#8
def kindAccepted : Octet := 0x60#8
def kindRefused : Octet := 0x61#8
def kindTableContent : Octet := 0x62#8
def kindStationStatus : Octet := 0x63#8
def kindPointStatus : Octet := 0x64#8
def kindUnitStatus : Octet := 0x65#8
def kindCounterStatus : Octet := 0x66#8
def kindAttention : Octet := 0x6F#8

/-- The management kinds, 40h to 4Ch (R162). -/
def isManagement (k : Octet) : Bool := decide (0x40 ≤ k.toNat) && decide (k.toNat ≤ 0x4C)

/-- The address of the controller, of the supervisor, of the permit and supply nodes, of broadcast and
of an unenrolled drive (00_scope, Ring addresses). -/
def addrController : Octet := 63#8
def addrSupervisor : Octet := 48#8
def addrPermit : Octet := 49#8
def addrSupply : Octet := 50#8
def addrBroadcast : Octet := 127#8
def addrUnenrolled : Octet := 32#8

/-- The drive address 32 + n of unit n (00_scope, Ring addresses). -/
def driveAddress (u : UnitId) : Octet := BitVec.ofNat 8 (33 + u.val)

/-! ## Reasons of a refusal (R173) -/

/-- The ten reasons a REFUSED reply carries (R173). -/
inductive Reason where
  | origin
  | mode
  | range
  | order
  | inUse
  | capacity
  | unknown
  | busy
  | state
  | limit
  deriving DecidableEq, Repr

/-- The code of a reason (R173). -/
def Reason.code : Reason → Nat
  | .origin => 1
  | .mode => 2
  | .range => 3
  | .order => 4
  | .inUse => 5
  | .capacity => 6
  | .unknown => 7
  | .busy => 8
  | .state => 9
  | .limit => 10

/-! ## Numbers that name station objects -/

/-- The unit that a unit number 1 to 12 names. -/
def unitNumbered (n : Nat) : Option UnitId := if h : n - 1 < 12 then if n = 0 then none else some ⟨n - 1, h⟩ else none

/-- The number, 1 to 12, of a unit. -/
def unitNumber (u : UnitId) : Nat := u.val + 1

/-- The gauge that a gauge number 0 to 15 names. -/
def gaugeNumbered (n : Nat) : Option GaugeId := if h : n < 16 then some ⟨n, h⟩ else none

/-- The point that 1 to 4, or 5 for R, names (10.1). -/
def pointNumbered (n : Nat) : Option PointId := if h : n - 1 < 5 then if n = 0 then none else some ⟨n - 1, h⟩ else none

/-- The basin that a basin number 1 to 4 names. -/
def basinNumbered (n : Nat) : Option BasinId := if h : n - 1 < 4 then if n = 0 then none else some ⟨n - 1, h⟩ else none

/-- The type that a type number 1 to 4 names. -/
def typeNumbered (n : Nat) : Option TypeId := if h : n - 1 < 4 then if n = 0 then none else some ⟨n - 1, h⟩ else none

/-- The point of basin b (3.1). -/
def basinPoint (b : BasinId) : PointId := ⟨b.val, by omega⟩

/-- The river point R. -/
def riverPoint : PointId := 4

/-- The basin of a point, none for R. -/
def pointBasin (p : PointId) : Option BasinId := if h : p.val < 4 then some ⟨p.val, h⟩ else none

/-- The unit whose drive address an octet is. -/
def driveUnit (a : Octet) : Option UnitId := if a.toNat < 33 then none else unitNumbered (a.toNat - 32)

/-! ## Field telegrams (R5, R6, 10.3) -/

/-- The health octet of a LEVEL REPORT: HEALTHY or UNHEALTHY, or neither (R5, 10.3). -/
def healthOf (o : Octet) : Option Health :=
  if o = 0#8 then some .unhealthy else if o = 1#8 then some .healthy else none

/-- A BINARY report (R5): health and a signed reading, or none when it is malformed. -/
def binaryReport : List Octet → Option (Health × Int)
  | [h, a, b] => (healthOf h).map fun x => (x, intOf [a, b])
  | _ => none

/-- The low four bits of an octet. -/
def lowDigit (o : Octet) : Nat := o.toNat % 16

/-- The high four bits of an octet. -/
def highDigit (o : Octet) : Nat := o.toNat / 16

/-- A DECIMAL report (R6): six packed digits, the least significant first, d5 the sign digit; none when
it is malformed. Negative zero is 0. -/
def decimalReport : List Octet → Option (Health × Int)
  | [h, a, b, c] =>
    let digits := [lowDigit a, highDigit a, lowDigit b, highDigit b, lowDigit c]
    let magnitude : Nat := lowDigit a + 10 * highDigit a + 100 * lowDigit b + 1000 * highDigit b + 10000 * lowDigit c
    if digits.all (fun d => decide (d ≤ 9)) && decide (highDigit c ≤ 1) then
      (healthOf h).map fun x => (x, if highDigit c = 1 then -(magnitude : Int) else (magnitude : Int))
    else none
  | _ => none

/-- A LEVEL REPORT by the encoding its gauge record names, 0 BINARY, 1 DECIMAL (R5, R6). -/
def levelReading (encoding : Nat) (p : List Octet) : Option (Health × Int) :=
  if encoding = 0 then binaryReport p else decimalReport p

/-- The motion an octet names (10.3). -/
def motionOf : Nat → Option Motion
  | 0 => some .stopped
  | 1 => some .accelerating
  | 2 => some .runLow
  | 3 => some .runHigh
  | 4 => some .decelerating
  | _ => none

/-- The control place an octet names (10.3). -/
def placeOf : Nat → Option Place
  | 0 => some .remote
  | 1 => some .panel
  | _ => none

/-- The order outcome an octet names (10.3). -/
def outcomeOf : Nat → Option OrderOutcome
  | 0 => some .none
  | 1 => some .taken
  | 2 => some .declined
  | _ => none

/-- A UNIT REPORT's fields, or none when it is malformed (R70, 10.3). -/
def unitReportOf : List Octet → Option Report
  | [a, b, c, d] =>
    match placeOf a.toNat, motionOf b.toNat, outcomeOf d.toNat with
    | some pl, some m, some oc => if c.toNat ≤ 15 then some ⟨pl, m, c.toNat, oc⟩ else none
    | _, _, _ => none
  | _ => none

/-- The stage a running motion shows (4.5). -/
def Motion.stage : Motion → Option Stage
  | .runLow => some .low
  | .runHigh => some .high
  | _ => none

/-- The stage octet of an order: 01h LOW, 02h HIGH (10.3). -/
def stageOf : Nat → Option Stage
  | 1 => some .low
  | 2 => some .high
  | _ => none

/-- The stage octet of a stage (10.3). -/
def Stage.code : Stage → Nat
  | .low => 1
  | .high => 2

/-- The other stage. -/
def Stage.other : Stage → Stage
  | .low => .high
  | .high => .low

/-- The order octet of an order (10.3). -/
def Order.code : Order → Nat
  | .start _ => 1
  | .restage _ => 2
  | .stop => 3
  | .halt => 4

/-- The payload of a UNIT ORDER (10.3, R184): the stage is present for START and RESTAGE only. -/
def Order.payload : Order → List Octet
  | .start x => [1#8, BitVec.ofNat 8 x.code]
  | .restage x => [2#8, BitVec.ofNat 8 x.code]
  | .stop => [3#8]
  | .halt => [4#8]

/-- The mode an octet names (10.1). -/
def modeOf : Nat → Option Mode
  | 0 => some .setup
  | 1 => some .auto
  | 2 => some .manual
  | _ => none

/-- The octet of a mode (10.1). -/
def Mode.code : Mode → Nat
  | .setup => 0
  | .auto => 1
  | .manual => 2

/-! ## Table records (10.5) -/

/-- The octets of a station record (10.5). -/
def stationOctets (r : StationRec) : List Octet :=
  natOctets 1 r.startMode.code ++ natOctets 2 r.replyTimeout ++ natOctets 1 r.gaugePollInterval
  ++ natOctets 2 r.standbyPollInterval ++ natOctets 1 r.unitPollInterval ++ natOctets 3 r.ceiling
  ++ natOctets 3 r.fallbackBudget ++ natOctets 2 r.silenceTime ++ natOctets 3 r.defaultPermit
  ++ natOctets 1 r.hornWarning ++ natOctets 2 r.hornRearm ++ natOctets 2 r.startSpacing
  ++ natOctets 1 r.threshold

/-- A station record from its octets (10.5); none when its start mode names no mode. -/
def stationOf (l : List Octet) : Option StationRec :=
  (modeOf (numAt l 0 1)).map fun m =>
    { startMode := m
      replyTimeout := numAt l 1 2
      gaugePollInterval := numAt l 3 1
      standbyPollInterval := numAt l 4 2
      unitPollInterval := numAt l 6 1
      ceiling := numAt l 7 3
      fallbackBudget := numAt l 10 3
      silenceTime := numAt l 13 2
      defaultPermit := numAt l 15 3
      hornWarning := numAt l 18 1
      hornRearm := numAt l 19 2
      startSpacing := numAt l 21 2
      threshold := numAt l 23 1 }

/-- The octets of a gauge record (10.5). -/
def gaugeOctets (r : GaugeRec) : List Octet :=
  natOctets 1 (boolBit r.inUse) ++ natOctets 1 r.node ++ natOctets 1 r.point ++ natOctets 1 r.encoding
  ++ intOctets 2 r.offset ++ intOctets 2 r.validMin ++ intOctets 2 r.validMax ++ natOctets 2 r.staleAge

/-- A gauge record from its octets (10.5). -/
def gaugeOf (l : List Octet) : GaugeRec where
  inUse := numAt l 0 1 = 1
  node := numAt l 1 1
  point := numAt l 2 1
  encoding := numAt l 3 1
  offset := sgnAt l 4 2
  validMin := sgnAt l 6 2
  validMax := sgnAt l 8 2
  staleAge := numAt l 10 2

/-- The octets of a river record (10.5). -/
def riverOctets (r : RiverRec) : List Octet :=
  natOctets 2 r.band ++ natOctets 2 r.holdTime ++ intOctets 2 r.fallback

/-- A river record from its octets (10.5). -/
def riverOf (l : List Octet) : RiverRec := ⟨numAt l 0 2, numAt l 2 2, sgnAt l 4 2⟩

/-- The octets of a step slot (10.5). -/
def stepOctets (s : Step) : List Octet := intOctets 2 s.threshold ++ natOctets 3 s.target

/-- The step slot `i` of a basin record's octets; a slot beyond the step count is 0 (10.5). -/
def stepAt (l : List Octet) (i : Nat) : Step :=
  if i < numAt l 21 1 then ⟨sgnAt l (22 + 5 * i) 2, numAt l (24 + 5 * i) 3⟩ else ⟨0, 0⟩

/-- The octets of a basin record (10.5). -/
def basinOctets (r : BasinRec) : List Octet :=
  natOctets 1 (boolBit r.inUse) ++ natOctets 2 r.band ++ natOctets 2 r.holdTime ++ natOctets 2 r.hysteresis
  ++ intOctets 2 r.stopLevel ++ intOctets 2 r.wakeLevel ++ intOctets 2 r.criticalLevel
  ++ natOctets 1 r.overrideAllowed ++ natOctets 3 r.emergency ++ natOctets 1 r.priority
  ++ natOctets 2 r.outletLoss ++ natOctets 1 r.blindStep ++ natOctets 1 r.stepCount
  ++ r.steps.toList.flatMap stepOctets

/-- A basin record from its octets (10.5). -/
def basinOf (l : List Octet) : BasinRec where
  inUse := numAt l 0 1 = 1
  band := numAt l 1 2
  holdTime := numAt l 3 2
  hysteresis := numAt l 5 2
  stopLevel := sgnAt l 7 2
  wakeLevel := sgnAt l 9 2
  criticalLevel := sgnAt l 11 2
  overrideAllowed := numAt l 13 1
  emergency := numAt l 14 3
  priority := numAt l 17 1
  outletLoss := numAt l 18 2
  blindStep := numAt l 20 1
  stepCount := numAt l 21 1
  steps := #v[stepAt l 0, stepAt l 1, stepAt l 2, stepAt l 3, stepAt l 4, stepAt l 5]

/-- The octets of a curve point slot (10.5). -/
def pointOctets (c : CurvePoint) : List Octet := natOctets 2 c.h ++ natOctets 2 c.q ++ natOctets 2 c.p

/-- The curve point slot `i` from octet `off` on; a slot beyond the count `n` is 0 (10.5). -/
def curveAt (l : List Octet) (off n i : Nat) : CurvePoint :=
  if i < n then ⟨numAt l (off + 6 * i) 2, numAt l (off + 2 + 6 * i) 2, numAt l (off + 4 + 6 * i) 2⟩ else ⟨0, 0, 0⟩

/-- The eight curve point slots from octet `off` on (10.5). -/
def curveSlots (l : List Octet) (off n : Nat) : Vector CurvePoint 8 :=
  #v[curveAt l off n 0, curveAt l off n 1, curveAt l off n 2, curveAt l off n 3,
     curveAt l off n 4, curveAt l off n 5, curveAt l off n 6, curveAt l off n 7]

/-- The octets of a type record (10.5). -/
def typeOctets (r : TypeRec) : List Octet :=
  natOctets 1 (boolBit r.inUse) ++ natOctets 1 r.stageCount ++ natOctets 1 r.highCount ++ natOctets 1 r.lowCount
  ++ natOctets 2 r.startPower ++ natOctets 2 r.minRun ++ natOctets 2 r.minRest ++ natOctets 2 r.startConfirm
  ++ natOctets 2 r.stopConfirm ++ r.high.toList.flatMap pointOctets ++ r.low.toList.flatMap pointOctets

/-- A type record from its octets (10.5). -/
def typeOf (l : List Octet) : TypeRec where
  inUse := numAt l 0 1 = 1
  stageCount := numAt l 1 1
  highCount := numAt l 2 1
  lowCount := numAt l 3 1
  startPower := numAt l 4 2
  minRun := numAt l 6 2
  minRest := numAt l 8 2
  startConfirm := numAt l 10 2
  stopConfirm := numAt l 12 2
  high := curveSlots l 14 (numAt l 2 1)
  low := curveSlots l 62 (numAt l 3 1)

/-- The octets of a unit record (10.5). The identity field of a record that holds none is a free value
(log entry 10). -/
def unitOctets (r : UnitRec) : List Octet :=
  natOctets 1 (boolBit r.enrolled) ++ natOctets 4 (r.identity.getD Config.absentIdentity).toNat
  ++ natOctets 1 (r.type.val + 1) ++ natOctets 1 (r.basin.val + 1) ++ natOctets 1 (boolBit r.inService)
  ++ natOctets 2 r.startCount

/-- The octets of a table's whole record (R174, 10.5); 0 for a table that does not exist. -/
def recordLength : Nat → Nat
  | 1 => 24
  | 2 => 12
  | 3 => 6
  | 4 => 52
  | 5 => 110
  | 6 => 10
  | _ => 0

/-- The number of parts of a table's record (R187). -/
def partCount (table : Nat) : Nat := (recordLength table + 39) / 40

/-- The length of part `k`, 1 to `partCount`, of a table's record (R187). -/
def partLength (table k : Nat) : Nat := min 40 (recordLength table - 40 * (k - 1))

/-- Whether a table's record has a part `k` (R187). -/
def hasPart (table k : Nat) : Bool := decide (1 ≤ k) && decide (k ≤ partCount table)

/-- Whether a part's fields whose values are named each hold one of them (R172): the in use field of
gauge and type records, and the enrolled and in service fields of unit records. The encoding, the start mode,
and a basin's in use and override allowed are checked by the rules that take them (R1, R175, R44 with R45; log
entry 20). -/
def partNamed (table k : Nat) (part : List Octet) : Bool :=
  match table, k with
  | 2, 1 => decide (numAt part 0 1 ≤ 1)
  | 5, 1 => decide (numAt part 0 1 ≤ 1)
  | 6, 1 => decide (numAt part 0 1 ≤ 1) && decide (numAt part 7 1 ≤ 1)
  | _, _ => true

end Sys2Proof.Machine
end

