-- ==== Sys2Proof/Machine/Flags.lean ====
section
/-! DEFINITION. The condition codes and the pending set (R177, 10.3), the saturating counts, and the
codes in which named values are carried in the status answers (10.1, R186). -/

namespace Sys2Proof.Machine

open Sys2Proof

/-- The code of a condition (R177). -/
def Condition.code : Condition → Nat
  | .basinCritical => 1
  | .unitTripped => 2
  | .budgetUnmet => 3
  | .permitUnmet => 4
  | .pointLost => 5
  | .unitSilent => 6
  | .supplySilent => 7
  | .gaugeFault => 8
  | .pointDisputed => 9
  | .holdActive => 10
  | .ringFault => 11
  | .foreignOrder => 12
  | .enrolmentDone => 13

/-- The place of a condition in the condition set: its code less 1. -/
def Condition.index : Condition → Fin 13
  | .basinCritical => 0
  | .unitTripped => 1
  | .budgetUnmet => 2
  | .permitUnmet => 3
  | .pointLost => 4
  | .unitSilent => 5
  | .supplySilent => 6
  | .gaugeFault => 7
  | .pointDisputed => 8
  | .holdActive => 9
  | .ringFault => 10
  | .foreignOrder => 11
  | .enrolmentDone => 12

/-- Conditions that are latched, not kept by state (R177). -/
def Condition.latched : Condition → Bool
  | .gaugeFault => true
  | .ringFault => true
  | .foreignOrder => true
  | .enrolmentDone => true
  | _ => false

/-- The thirteen conditions in the order of their codes. -/
def allConditions : List Condition :=
  [.basinCritical, .unitTripped, .budgetUnmet, .permitUnmet, .pointLost, .unitSilent, .supplySilent,
   .gaugeFault, .pointDisputed, .holdActive, .ringFault, .foreignOrder, .enrolmentDone]

/-- The pending set as it is carried: the bit of weight 2^(c-1) is set while condition c is pending (10.3). -/
def pendingSet (v : Vector Bool 13) : Nat :=
  allConditions.foldl (fun a c => a + if v[c.index] then 2 ^ (c.code - 1) else 0) 0

/-- The highest pending code: the smallest in the pending set, 0 when none is pending (R176). -/
def highestCode (v : Vector Bool 13) : Nat :=
  match allConditions.find? (fun c => v[c.index]) with
  | some c => c.code
  | none => 0

/-- Conditions with code 1 to 6 prevent standby and end it (R151, R153). -/
def Condition.wakes (c : Condition) : Bool := decide (c.code ≤ 6)

/-- A count raised by 1 that stays at `m` once it has reached it (R181, R17, R60). -/
def countUp (m n : Nat) : Nat := if n < m then n + 1 else m

/-! ## Codes of named values: their position in the list that owns them (10.1) -/

def PointState.code : PointState → Nat
  | .unseen => 0
  | .full => 1
  | .reduced => 2
  | .disputed => 3
  | .degraded => 4
  | .lost => 5

def LevelStatus.code : LevelStatus → Nat
  | .voted => 0
  | .held => 1
  | .blind => 2
  | .unseen => 3
  | .none => 4

def SampleStatus.code : SampleStatus → Nat
  | .absent => 0
  | .fresh => 1
  | .stale => 2
  | .malformed => 3
  | .outOfRange => 4

def Health.code : Health → Nat
  | .unhealthy => 0
  | .healthy => 1
  | .unknown => 2

def faultyCode : Option FaultyReason → Nat
  | none => 0
  | some .disagree => 1
  | some .silent => 2

def pollKindCode : Option PollKind → Nat
  | none => 0
  | some .background => 1
  | some .demand => 2

def UnitState.code : UnitState → Nat
  | .vacant => 0
  | .unknown => 1
  | .outOfService => 2
  | .resting => 3
  | .ready => 4
  | .confirming => 5
  | .warning => 6
  | .starting => 7
  | .running => 8
  | .raising => 9
  | .lowering => 10
  | .stopping => 11
  | .tripped => 12
  | .missing => 13
  | .localControl => 14

def optionalStageCode : Option Stage → Nat
  | none => 0
  | some .low => 1
  | some .high => 2

def Motion.code : Motion → Nat
  | .stopped => 0
  | .accelerating => 1
  | .runLow => 2
  | .runHigh => 3
  | .decelerating => 4

def Place.code : Place → Nat
  | .remote => 0
  | .panel => 1

def OrderOutcome.code : OrderOutcome → Nat
  | .none => 0
  | .taken => 1
  | .declined => 2

def tripReasonCode : Option TripReason → Nat
  | none => 0
  | some (.driveTrip _) => 1
  | some .startFailed => 2
  | some .raiseFailed => 3
  | some .lowerFailed => 4
  | some .stopFailed => 5

def optionalOrderCode : Option Order → Nat
  | none => 0
  | some o => o.code

def MinRun.code : MinRun → Nat
  | .idle => 0
  | .running _ => 1
  | .elapsed => 2

def EstStatus.code : EstStatus → Nat
  | .estimated => 0
  | .noType => 1
  | .noBasin => 2

def RiverSource.code : RiverSource → Nat
  | .voted => 0
  | .held => 1
  | .fallback => 2

def BasinSource.code : BasinSource → Nat
  | .voted => 0
  | .held => 1
  | .stopLevel => 2

def StageStatus.code : StageStatus → Nat
  | .onCurve => 0
  | .clamped => 1
  | .beyondCurve => 2
  | .noCurve => 3
  | .noHead => 4

def SupplyState.code : SupplyState → Nat
  | .awaiting => 0
  | .current => 1
  | .silent => 2

def PermitSource.code : PermitSource → Nat
  | .default => 0
  | .permitNode => 1

def EnrolState.code : EnrolState → Nat
  | .idle => 0
  | .offering => 1
  | .waiting => 2

end Sys2Proof.Machine
end

