-- ==== Sys2Proof/Machine/Ops.lean ====
section
/-! DEFINITION. The operations several blocks share: readiness, the outbound queues and the arbiter
(R165 to R168), the poll queue and its due list (R18), the replies (R164, R172), the conditions with
their ATTENTION telegrams (R177, R180), the standby exit (R155) and the evaluation triggers (R100). -/

namespace Sys2Proof.Machine

open Sys2Proof

/-! ## Plain data -/

/-- A vector with the entry at `i` replaced by `f` of it. -/
def upd {α : Type} {n : Nat} (v : Vector α n) (i : Fin n) (f : α → α) : Vector α n :=
  v.set i.val (f v[i]) i.isLt

/-- The twelve units in number order. -/
def allUnits : List UnitId := [0, 1, 2, 3, 4, 5, 6, 7, 8, 9, 10, 11]

/-- The sixteen gauges in number order. -/
def allGauges : List GaugeId := [0, 1, 2, 3, 4, 5, 6, 7, 8, 9, 10, 11, 12, 13, 14, 15]

/-- The four basins in number order. -/
def allBasins : List BasinId := [0, 1, 2, 3]

/-- The five points, the river last. -/
def allPoints : List PointId := [0, 1, 2, 3, 4]

/-- A timer armed with a duration: `none` while idle; a duration of 0 runs out as the timer is armed. -/
def armed (d : Nat) : Option Nat := if d = 0 then none else some d

/-! ## Readiness -/

/-- The controller is ready: it has power, the reset input is not asserted and no reset is held (R169,
R170). While it is not, no block takes an event. -/
def State.ready (s : State) : Bool := s.board.powered && !s.board.resetInput && !s.board.resetHold

/-- An event taken by a ready controller; while the controller is not ready the event does not come
about and nothing changes (log entry 3). -/
def whenReady (s : State) (f : State → State) : Host.Outcome State Fault Refusal :=
  .next (if s.ready then f s else s)

/-- An event of unit `n`'s own. -/
def onUnit (n : Nat) (s : State) (f : UnitId → State → State) : Host.Outcome State Fault Refusal :=
  match unitNumbered n with
  | some u => whenReady s (f u)
  | none => .fault (.noSuchUnit n)

/-- An event of gauge `n`'s own. -/
def onGauge (n : Nat) (s : State) (f : GaugeId → State → State) : Host.Outcome State Fault Refusal :=
  match gaugeNumbered n with
  | some g => whenReady s (f g)
  | none => .fault (.noSuchGauge n)

/-- An event of point `n`'s own. -/
def onPoint (n : Nat) (s : State) (f : PointId → State → State) : Host.Outcome State Fault Refusal :=
  match pointNumbered n with
  | some p => whenReady s (f p)
  | none => .fault (.noSuchPoint n)

/-! ## Evaluation triggers -/

/-- A trigger for a dispatch evaluation (R100): two triggers give two evaluations (R101). -/
def trigger (s : State) : State := { s with evalDue := s.evalDue + 1 }

/-- A trigger when `b` holds. -/
def triggerIf (b : Bool) (s : State) : State := if b then trigger s else s

/-! ## The outbound arbiter (R167) -/

/-- The telegram an order queue entry transmits (R63, R66, R185, 10.3). -/
def orderTelegram : OrderItem → Telegram
  | .unitOrder u o => ⟨driveAddress u, addrController, kindUnitOrder, o.payload⟩
  | .offer u => ⟨addrUnenrolled, addrController, kindEnrolOffer, [BitVec.ofNat 8 (unitNumber u)]⟩
  | .release => ⟨addrBroadcast, addrController, kindEnrolRelease, []⟩

/-- The telegram a poll queue entry transmits (R18). -/
def pollTelegram (e : PollEntry) : Telegram :=
  match e.target with
  | .gauge _ => ⟨e.node, addrController, kindLevelPoll, []⟩
  | .unit _ => ⟨e.node, addrController, kindUnitPoll, []⟩

/-- Whether an item of the order queue is a HALT order. -/
def OrderItem.halts : OrderItem → Bool
  | .unitOrder _ .halt => true
  | _ => false

/-- Whether an order queue entry is a HALT order. -/
def isHalt (e : OrderEntry) : Bool := e.item.halts

/-- The turn of the next HALT deposited: above that of every HALT in the order queue (R167, log entry 42). -/
def nextTurn (l : List OrderEntry) : Nat := l.foldl (fun n e => max n e.haltTurn) 0 + 1

/-- The one of two HALTs that was deposited first (R167). -/
def olderHalt (a b : OrderEntry) : OrderEntry := if b.haltTurn < a.haltTurn then b else a

/-- The HALT of the order queue that was deposited first, wherever in the queue it stands (R167). -/
def oldestHalt (l : List OrderEntry) : Option OrderEntry :=
  match l.filter isHalt with
  | [] => none
  | e :: r => some (r.foldl olderHalt e)

/-- The rotation's cycle from the queue after the one the pointer names (R167). -/
def QueueName.cycle : QueueName → List QueueName
  | .forward => [.order, .poll, .reply, .forward]
  | .order => [.poll, .reply, .forward, .order]
  | .poll => [.reply, .forward, .order, .poll]
  | .reply => [.forward, .order, .poll, .reply]

/-- The oldest telegram of a queue; the reply queue offers none while an answer is not yet deposited
(R172). -/
def queueHead (r : Ring) : QueueName → Option Telegram
  | .forward => r.forward.head?
  | .order => r.orders.head?.map fun e => orderTelegram e.item
  | .poll => r.polls.head?.map pollTelegram
  | .reply => if r.replyHeld then none else r.replies.head?.map fun e => e.telegram

/-- The order queue with its first entry that satisfies `p` marked as being transmitted. -/
def markSending (p : OrderEntry → Bool) : List OrderEntry → List OrderEntry
  | [] => []
  | e :: l => if p e then { e with sending := true } :: l else e :: markSending p l

/-- The grant of an idle line (R167): the HALT deposited first, which leaves the rotation pointer as it was,
else the oldest telegram of the first non-empty queue in the rotation. -/
def grantRing (r : Ring) : Ring :=
  match oldestHalt r.orders with
  | some e =>
    { r with
      orders := markSending (fun x => decide (x = e)) r.orders
      line := .sending .order (orderTelegram e.item) }
  | none =>
    match r.rotation.cycle.find? (fun q => (queueHead r q).isSome) with
    | none => r
    | some q =>
      match queueHead r q with
      | none => r
      | some t =>
        { r with
          line := .sending q t
          rotation := q
          orders := if q = .order then markSending (fun _ => true) r.orders else r.orders }

/-- Whether the arbiter may grant: the line is idle, the bypass relay open (R167) and no RESTART has had
its reply transmitted (R170). -/
def canGrant (s : State) : Bool :=
  decide (s.ring.line = .idle) && !s.board.relayClosed && decide (s.board.restart ≠ .replied)

/-- The arbiter grants if it may: at a deposit while the line is idle, as the line falls idle, and as
the relay opens (R167, R169). -/
def grant (s : State) : State := if canGrant s then { s with ring := grantRing s.ring } else s

/-! ## Deposits -/

/-- A telegram joins the tail of the forward queue (R161). -/
def depositForward (t : Telegram) (s : State) : State :=
  grant { s with ring := { s.ring with forward := s.ring.forward ++ [t] } }

/-- An entry of the order queue as it is deposited: a HALT takes the next turn (R167). -/
def newEntry (i : OrderItem) (l : List OrderEntry) : OrderEntry := ⟨i, false, false, if i.halts then nextTurn l else 0⟩

/-- Whether an order queue entry is an enrolment telegram: an offer or a release (R63, R66). -/
def isEnrolment (e : OrderEntry) : Bool :=
  match e.item with
  | .unitOrder _ _ => false
  | _ => true

/-- Whether an order queue entry is an enrolment telegram whose transmission has not begun. -/
def waitsToEnrol (e : OrderEntry) : Bool := isEnrolment e && !e.sending

/-- The order queue, of sixteen places, with a place for one entry more (R165). DESIGN CHOICE (log entry 15): with all
sixteen taken, which R86 says does not come about, the oldest enrolment telegram that waits gives its place up. Unsafe
for a claim about an enrolment telegram that stands in a full order queue. -/
def withPlace (l : List OrderEntry) : List OrderEntry := if l.length < 16 then l else l.eraseP waitsToEnrol

/-- An entry joins the tail of the order queue in a place of its own (R86, R63, R66, R165). -/
def depositOrder (i : OrderItem) (s : State) : State :=
  grant { s with ring := { s.ring with orders := withPlace s.ring.orders ++ [newEntry i s.ring.orders] } }

/-- A telegram joins the tail of the reply queue. -/
def depositReply (e : ReplyEntry) (s : State) : State :=
  grant { s with ring := { s.ring with replies := s.ring.replies ++ [e] } }

/-- The due list, front to back, as the polls its entries ask for (R18). -/
def duePolls (store : Store) (r : Ring) : List PollEntry :=
  r.demandDue.map (fun g => ⟨.gauge g, BitVec.ofNat 8 store.gauges[g].node, true⟩)
  ++ r.unitDue.map (fun u => ⟨.unit u, driveAddress u, true⟩)
  ++ r.backgroundDue.map (fun g => ⟨.gauge g, BitVec.ofNat 8 store.gauges[g].node, true⟩)

/-- The due list without the entry of a target. -/
def removeDue (t : PollTarget) (r : Ring) : Ring :=
  match t with
  | .gauge g => { r with demandDue := r.demandDue.erase g, backgroundDue := r.backgroundDue.erase g }
  | .unit u => { r with unitDue := r.unitDue.erase u }

/-- The frontmost due entry whose node has no poll in the poll queue (R18). -/
def nextDue (store : Store) (r : Ring) : Option PollEntry :=
  (duePolls store r).find? fun e => r.polls.all fun x => decide (x.node ≠ e.node)

/-- The poll queue takes from the due list while it has room (R18), at most `fuel` entries. -/
def fillPollsFor : Nat → State → State
  | 0, s => s
  | fuel + 1, s =>
    if s.ring.polls.length < 4 then
      match nextDue s.store s.ring with
      | some e =>
        let r := removeDue e.target s.ring
        fillPollsFor fuel (grant { s with ring := { r with polls := r.polls ++ [e] } })
      | none => s
    else s

/-- The Ring Port fills the poll queue, of four places, from the due list (R18, R165). -/
def fillPolls (s : State) : State := fillPollsFor 4 s

/-! ## Counters (R181) -/

/-- Raises a counter. -/
def bump (f : Counters → Counters) (s : State) : State :=
  { s with station := { s.station with counters := f s.station.counters } }

def Counters.upLineFaults (c : Counters) : Counters := { c with lineFaults := countUp 65535 c.lineFaults }
def Counters.upReceiveOverruns (c : Counters) : Counters := { c with receiveOverruns := countUp 65535 c.receiveOverruns }
def Counters.upForwarded (c : Counters) : Counters := { c with forwarded := countUp 65535 c.forwarded }
def Counters.upBlockedOrders (c : Counters) : Counters := { c with blockedOrders := countUp 65535 c.blockedOrders }
def Counters.upOriginRefusals (c : Counters) : Counters := { c with originRefusals := countUp 65535 c.originRefusals }
def Counters.upSkippedPolls (c : Counters) : Counters := { c with skippedPolls := countUp 65535 c.skippedPolls }
def Counters.upDroppedAttentions (c : Counters) : Counters := { c with droppedAttentions := countUp 65535 c.droppedAttentions }

/-! ## Delivered telegrams and reply room (R161, R164) -/

/-- The delivered telegrams less the first that satisfies `p`: its owner takes it (log entry 1). -/
def takeDelivered (p : Telegram → Bool) (s : State) : State :=
  { s with ring := { s.ring with delivered := s.ring.delivered.eraseP p } }

/-- Places of the reply queue kept for requests delivered and not yet answered (R164). -/
def reservedReplies (r : Ring) : Nat := r.delivered.countP fun t => isManagement t.kind

/-- Whether the reply queue, of four places, has one that is neither taken nor kept (R164, R165, log
entry 7). -/
def replyRoom (r : Ring) : Bool := decide (r.replies.length + reservedReplies r < 4)

/-! ## Standby exit (R155) -/

/-- Standby goes from ON to OFF: the poll timers are armed again with the intervals out of standby, the
horn-required flag is set and the exit is a trigger. Without effect while standby is OFF (R153). -/
def standbyExit (s : State) : State :=
  if s.station.standby then
    trigger
      { s with
        station := { s.station with standby := false }
        pollTimers := ⟨some s.store.station.gaugePollInterval, some s.store.station.unitPollInterval⟩
        horn := { s.horn with required := true } }
  else s

/-! ## Conditions (R177 to R180) -/

/-- The ATTENTION telegram of a condition (R180, 10.3). -/
def attentionTelegram (c : Condition) (v : Vector Bool 13) : Telegram :=
  ⟨addrSupervisor, addrController, kindAttention, natOctets 1 c.code ++ natOctets 2 (pendingSet v)⟩

/-- A transition to pending sends an ATTENTION when the code is at or below the threshold; one that finds
no room in the reply queue is dropped and counted (R180). -/
def attention (c : Condition) (s : State) : State :=
  if c.code ≤ s.store.station.threshold then
    if replyRoom s.ring then depositReply ⟨attentionTelegram c s.station.conditions, false⟩ s
    else bump Counters.upDroppedAttentions s
  else s

/-- The condition set with one condition as given. -/
def setPending (c : Condition) (b : Bool) (s : State) : State :=
  { s with station := { s.station with conditions := s.station.conditions.set c.index.val b c.index.isLt } }

/-- Whether a condition is pending. -/
def isPending (c : Condition) (s : State) : Bool := s.station.conditions[c.index]

/-- A condition goes from not pending to pending (R177): ATTENTION, and the end of standby for codes 1
to 6 (R153). A condition already pending is left as it stands. -/
def raiseCondition (c : Condition) (s : State) : State :=
  if isPending c s then s
  else
    let s' := attention c (setPending c true s)
    if c.wakes then standbyExit s' else s'

/-- A report that a condition by state holds, or holds no longer (R177). -/
def reportCondition (c : Condition) (b : Bool) (s : State) : State :=
  if b then raiseCondition c s else setPending c false s

end Sys2Proof.Machine
end

