-- ==== Sys2Proof/Machine/Curves.lean ====
section
/-! DEFINITION. The Curve Evaluator: the type record checks (R26), head (R29 to R31), curve reading (R33,
R34), the estimate record (R28, R32, R36) and its formation (R37 to R39, R42). -/

namespace Sys2Proof.Machine

open Sys2Proof

/-! ## Reading a curve -/

/-- The points of a curve: the first `n` slots (R25). -/
def curvePoints (v : Vector CurvePoint 8) (n : Nat) : List CurvePoint := v.toList.take n

/-- The HIGH curve of a type (R25). -/
def TypeRec.highCurve (t : TypeRec) : List CurvePoint := curvePoints t.high t.highCount

/-- The LOW curve of a type: absent with stage count 1 (R25). -/
def TypeRec.lowCurve (t : TypeRec) : List CurvePoint :=
  if t.stageCount = 2 then curvePoints t.low t.lowCount else []

/-- The curve of a stage. -/
def TypeRec.curve (t : TypeRec) : Stage → List CurvePoint
  | .high => t.highCurve
  | .low => t.lowCurve

/-- A quotient rounded down (00_scope, Rounding), for a positive divisor. -/
def quotDown (a d : Int) : Int := a / d

/-- A quotient rounded up (00_scope, Rounding), for a positive divisor. -/
def quotUp (a d : Int) : Int := -(-a / d)

/-- Interpolation inside the segment from `a` to `b` (R34): discharge rounded down, power rounded up. -/
def interpolate (a b : CurvePoint) (h : Nat) : StageEst where
  q := ((a.q : Int) + quotDown (((b.q : Int) - a.q) * ((h : Int) - a.h)) ((b.h : Int) - a.h)).toNat
  p := ((a.p : Int) + quotUp (((b.p : Int) - a.p) * ((h : Int) - a.h)) ((b.h : Int) - a.h)).toNat
  status := .onCurve

/-- A curve read at a head above the head of point `a`, with `l` the points after `a` (R33). -/
def readAfter (h : Nat) : CurvePoint → List CurvePoint → StageEst
  | a, [] => if h = a.h then ⟨a.q, a.p, .onCurve⟩ else ⟨0, a.p, .beyondCurve⟩
  | a, b :: l => if h < b.h then interpolate a b h else readAfter h b l

/-- A curve read at a head (R33). The empty curve is read nowhere: a type lacking the curve is told
apart before (R36). -/
def readCurve (h : Nat) : List CurvePoint → StageEst
  | [] => ⟨0, 0, .noCurve⟩
  | a :: l =>
    if h < a.h then ⟨a.q, a.p, .clamped⟩
    else if h = a.h then ⟨a.q, a.p, .onCurve⟩
    else readAfter h a l

/-- The largest power of a curve (R32). -/
def maxPower (l : List CurvePoint) : Nat := l.foldl (fun a c => max a c.p) 0

/-! ## Head -/

/-- The head of a basin: the raw head clamped to 0 to 60000 (R31). -/
def headOf (river basin : Int) (loss : Nat) : Nat := (max 0 (min 60000 (river - basin + loss))).toNat

/-- The basin term of a head and its source, from the point as last published (R30). -/
def basinTerm (r : BasinRec) (p : PointPub) : Int × BasinSource :=
  match p.state, p.level with
  | .unseen, _ => (r.stopLevel, .stopLevel)
  | .lost, some l => if p.holdExpired then (r.stopLevel, .stopLevel) else (l, .held)
  | _, some l => (l, .voted)
  | _, none => (r.stopLevel, .stopLevel)

/-! ## The estimate record -/

/-- The estimate of a stage of a type in use at head `h` (R33, R36). -/
def stageEstimate (t : TypeRec) (x : Stage) (h : Nat) : StageEst :=
  match t.curve x with
  | [] => ⟨0, t.startPower, .noCurve⟩
  | l => readCurve h l

/-- The estimate of a stage of a type in use when the unit has no head (R32). -/
def stageNoHead (t : TypeRec) (x : Stage) : StageEst :=
  match t.curve x with
  | [] => ⟨0, t.startPower, .noCurve⟩
  | l => ⟨0, maxPower l, .noHead⟩

/-- The estimate record of an enrolled unit from the stored records and the published levels (R28, R29,
R32, R36). -/
def formEstimate (store : Store) (points : Vector PointRt 5) (river : RiverUse) (u : UnitRec) : Estimate :=
  let t := store.types[u.type]
  let b := store.basins[u.basin]
  if !t.inUse then ⟨.noType, none, none, none, none, none⟩
  else if !b.inUse then ⟨.noBasin, none, none, none, some (stageNoHead t .high), some (stageNoHead t .low)⟩
  else
    let term := basinTerm b points[basinPoint u.basin].published
    let h := headOf river.level term.1 b.outletLoss
    ⟨.estimated, some h, some river.source, some term.2, some (stageEstimate t .high h), some (stageEstimate t .low h)⟩

/-- The estimate record a unit holds: none for a unit that is not enrolled (R28, R39). -/
def estimateFor (s : State) (u : UnitId) : Option Estimate :=
  if s.store.units[u].enrolled then some (formEstimate s.store s.points s.riverUse s.store.units[u]) else none

/-- The Curve Evaluator forms unit `u`'s estimate record (R39). -/
def reformUnit (u : UnitId) (s : State) : State :=
  { s with units := upd s.units u fun r => { r with est := estimateFor s u } }

/-- The Curve Evaluator forms again the estimate records of the units that `p` picks (R37, R38, R42). -/
def reformWhere (p : UnitRec → Bool) (s : State) : State :=
  { s with
    units := Vector.ofFn fun u : UnitId =>
      if p s.store.units[u] then { s.units[u] with est := estimateFor s u } else s.units[u] }

/-- The units of basin `b` (R37, R38). -/
def reformBasin (b : BasinId) (s : State) : State := reformWhere (fun r => decide (r.basin = b)) s

/-- Every unit (R37, R38). -/
def reformAll (s : State) : State := reformWhere (fun _ => true) s

/-- The stage entry of an estimate record. -/
def Estimate.stage (e : Estimate) : Stage → Option StageEst
  | .high => e.high
  | .low => e.low

/-- The estimate of a unit at a stage, as its record holds it (R28). -/
def stageEst (s : State) (u : UnitId) (x : Stage) : Option StageEst :=
  (s.units[u].est).bind fun e => e.stage x

/-- "q at stage x" (R98); 0 where the entry is absent (R36). -/
def qAt (s : State) (u : UnitId) (x : Stage) : Nat := ((stageEst s u x).map StageEst.q).getD 0

/-- "p at stage x" (R98); 0 where the entry is absent (R36). -/
def pAt (s : State) (u : UnitId) (x : Stage) : Nat := ((stageEst s u x).map StageEst.p).getD 0

/-- Whether a unit's estimate at a stage is BEYOND CURVE (R41). -/
def beyondAt (s : State) (u : UnitId) (x : Stage) : Bool :=
  decide ((stageEst s u x).map StageEst.status = some .beyondCurve)

/-- The unit status of a unit's estimate record, absent for a VACANT unit. -/
def estStatus (s : State) (u : UnitId) : Option EstStatus := (s.units[u].est).map Estimate.status

/-- The type record of a unit (R60). -/
def typeRecOf (s : State) (u : UnitId) : TypeRec := s.store.types[s.store.units[u].type]

/-- A type in use with both stages. -/
def twoStage (t : TypeRec) : Bool := t.inUse && decide (t.stageCount = 2)

/-- A stage the type has, in use: HIGH, or LOW with stage count 2. -/
def hasStage (t : TypeRec) : Stage → Bool
  | .high => true
  | .low => decide (t.stageCount = 2)

/-! ## The checks of a type record write (R26) -/

/-- Strictly ascending. -/
def ascending : List Int → Bool
  | a :: b :: l => decide (a < b) && ascending (b :: l)
  | _ => true

/-- Non-decreasing. -/
def nonDecreasing : List Nat → Bool
  | a :: b :: l => decide (a ≤ b) && nonDecreasing (b :: l)
  | _ => true

/-- The points of a curve lie in range (R25). -/
def pointsInRange (l : List CurvePoint) : Bool :=
  l.all fun c => decide (c.h ≤ 60000) && decide (c.q ≤ 65535) && decide (c.p ≤ 65535)

/-- Check 2 of R26: every field lies in its range. -/
def typeInRange (t : TypeRec) : Bool :=
  (decide (t.stageCount = 1) || decide (t.stageCount = 2))
  && decide (2 ≤ t.highCount) && decide (t.highCount ≤ 8)
  && (if t.stageCount = 2 then decide (2 ≤ t.lowCount) && decide (t.lowCount ≤ 8) else decide (t.lowCount = 0))
  && pointsInRange t.highCurve && pointsInRange t.lowCurve
  && decide (t.startPower ≤ 65535) && decide (t.minRun ≤ 3600) && decide (t.minRest ≤ 3600)
  && decide (5 ≤ t.startConfirm) && decide (t.startConfirm ≤ 300)
  && decide (5 ≤ t.stopConfirm) && decide (t.stopConfirm ≤ 600)

/-- Check 3 of R26: heads ascend in each present curve, and the start power covers every power. -/
def typeInOrder (t : TypeRec) : Bool :=
  ascending (t.highCurve.map fun c => (c.h : Int)) && ascending (t.lowCurve.map fun c => (c.h : Int))
  && t.highCurve.all (fun c => decide (c.p ≤ t.startPower)) && t.lowCurve.all (fun c => decide (c.p ≤ t.startPower))

/-- A unit that a type or basin record in use may not be taken from (R26, R45): the candidate, or a unit
in STARTING, RUNNING, RAISING, LOWERING or STOPPING. -/
def busyState : UnitState → Bool
  | .confirming => true
  | .warning => true
  | .starting => true
  | .running => true
  | .raising => true
  | .lowering => true
  | .stopping => true
  | _ => false

/-- The checks of R26, in its order: the reason of the first that fails. -/
def checkType (s : State) (t : TypeId) (r : TypeRec) : Option Reason :=
  if r.inUse && !typeInRange r then some .range
  else if r.inUse && !typeInOrder r then some .order
  else if allUnits.any (fun u => decide (s.store.units[u].type = t) && busyState s.units[u].state) then some .inUse
  else none

/-- A type record write is applied (R27, R38): the record is replaced, the estimates of its units are
formed again, and the write is a trigger. -/
def applyType (t : TypeId) (r : TypeRec) (s : State) : State :=
  trigger (reformWhere (fun u => decide (u.type = t))
    { s with store := { s.store with types := upd s.store.types t fun _ => r } })

end Sys2Proof.Machine
end

