-- ==== Sys2Proof/Machine/Demand.lean ====
section
/-! DEFINITION. Basin Demand: the basin record checks (R45), level status (R48), the demand step (R49 to
R53), critical override (R54), the three flags (R55, R56) and the publication (R57). -/

namespace Sys2Proof.Machine

open Sys2Proof

/-! ## Level status (R48) -/

/-- The level status of an in-use basin from its point as last published (R48). -/
def levelStatus (p : PointPub) : LevelStatus :=
  match p.state with
  | .unseen => if p.holdExpired then .blind else .unseen
  | .lost => if p.holdExpired then .blind else .held
  | _ => .voted

/-- The defined level of a basin: the voted or the held level (R48). -/
def definedLevel (p : PointPub) : Option Int :=
  match levelStatus p with
  | .voted => p.level
  | .held => p.level
  | _ => none

/-! ## The step list -/

/-- Threshold `k`, 1 to m, of a basin record (R44). -/
def threshold (r : BasinRec) (k : Nat) : Int := ((r.steps.toList[k - 1]?).map Step.threshold).getD 0

/-- Target `k` of a basin record; step 0 has target 0 (R44, R53). -/
def targetOf (r : BasinRec) (k : Nat) : Nat :=
  if k = 0 then 0 else ((r.steps.toList[k - 1]?).map Step.target).getD 0

/-- The step raised by a level: one at a time while the next threshold is at or below it (R49); `fuel` is
the number of steps above. -/
def raiseStep (r : BasinRec) (l : Int) : Nat → Nat → Nat
  | 0, k => k
  | fuel + 1, k => if threshold r (k + 1) ≤ l then raiseStep r l fuel (k + 1) else k

/-- The step lowered by a level: one at a time while the level is below its threshold less the
hysteresis (R49). -/
def lowerStep (r : BasinRec) (l : Int) : Nat → Nat
  | 0 => 0
  | k + 1 => if l < threshold r (k + 1) - r.hysteresis then lowerStep r l k else k + 1

/-- The step moved by a level under hysteresis (R49). -/
def moveStep (r : BasinRec) (l : Int) (k : Nat) : Nat := lowerStep r l (raiseStep r l (r.stepCount - k) k)

/-- The step formed afresh from a level: the highest `k` whose threshold is at or below it, looked for
from `k` downwards (R46, R52). -/
def freshStepFrom (r : BasinRec) (l : Int) : Nat → Nat
  | 0 => 0
  | k + 1 => if threshold r (k + 1) ≤ l then k + 1 else freshStepFrom r l k

/-- The step formed afresh from a level (R46, R52). -/
def freshStep (r : BasinRec) (l : Int) : Nat := freshStepFrom r l r.stepCount

/-! ## The basin's state -/

/-- Whether a basin's record allows override (R44). -/
def BasinRec.allowsOverride (r : BasinRec) : Bool := decide (r.overrideAllowed = 1)

/-- The flags that a basin's level gives (R55, R56). -/
def atLevel (test : Int → Bool) (l : Option Int) : Bool := (l.map test).getD false

/-- The basin's values with a step and an override state given, from the record and the point (R48, R53,
R55, R56). -/
def basinValues (r : BasinRec) (p : PointPub) (step : Nat) (override : Bool) : BasinRt where
  status := levelStatus p
  step := step
  target := targetOf r step
  override := override
  blind := decide (levelStatus p = .blind)
  atCritical := atLevel (fun l => decide (r.criticalLevel ≤ l)) (definedLevel p)
  dry := atLevel (fun l => decide (l ≤ r.stopLevel)) (definedLevel p)
  atWake := decide (levelStatus p = .voted) && atLevel (fun l => decide (r.wakeLevel ≤ l)) p.level

/-- The step after a publication of the basin's point (R49 to R52). -/
def publishedStep (r : BasinRec) (p : PointPub) (old : BasinRt) : Nat :=
  match levelStatus p, p.level with
  | .voted, some l => if old.status = .voted || old.status = .held then moveStep r l old.step else freshStep r l
  | .held, _ => old.step
  | .blind, _ => r.blindStep
  | _, _ => 0

/-- The override state after a publication of the basin's point (R54). -/
def publishedOverride (r : BasinRec) (p : PointPub) (old : BasinRt) : Bool :=
  match levelStatus p, p.level with
  | .voted, some l =>
    if old.override then decide (r.criticalLevel - r.hysteresis ≤ l)
    else r.allowsOverride && decide (r.criticalLevel ≤ l)
  | .held, _ => old.override
  | _, _ => false

/-- A basin after a publication of its point (R48 to R56). -/
def basinPublished (r : BasinRec) (p : PointPub) (old : BasinRt) : BasinRt :=
  basinValues r p (publishedStep r p old) (publishedOverride r p old)

/-- The step formed afresh by a record write (R46). -/
def rewrittenStep (r : BasinRec) (p : PointPub) : Nat :=
  match definedLevel p with
  | some l => freshStep r l
  | none => if levelStatus p = .blind then r.blindStep else 0

/-- The override state after a record write (R54). -/
def rewrittenOverride (r : BasinRec) (p : PointPub) (old : BasinRt) : Bool :=
  match definedLevel p with
  | some l =>
    r.allowsOverride
    && (decide (r.criticalLevel ≤ l) || (old.override && decide (r.criticalLevel - r.hysteresis ≤ l)))
  | none => false

/-- A basin after an accepted write of its record (R46, R47). -/
def basinRewritten (r : BasinRec) (p : PointPub) (old : BasinRt) : BasinRt :=
  if r.inUse then basinValues r p (rewrittenStep r p) (rewrittenOverride r p old) else BasinRt.notInUse

/-! ## Publication (R57) -/

/-- BASIN CRITICAL is pending while any basin's at-critical flag is set (R55). -/
def anyCritical (s : State) : Bool := allBasins.any fun b => s.basins[b].atCritical

/-- Basin Demand publishes basin `b`'s new values where they differ from the last published (R57): the
at-critical flag and the at-wake flag go to Station Control (R55, R56, R153), and a change of step or
override is a trigger. -/
def publishBasin (b : BasinId) (new : BasinRt) (s : State) : State :=
  let old := s.basins[b]
  if new = old then s
  else
    let s1 := { s with basins := upd s.basins b fun _ => new }
    let s2 := if new.atCritical ≠ old.atCritical then reportCondition .basinCritical (anyCritical s1) s1 else s1
    let s3 := if new.atWake && !old.atWake then standbyExit s2 else s2
    triggerIf (decide (new.step ≠ old.step ∨ new.override ≠ old.override)) s3

/-- Basin Demand takes a publication of basin `b`'s point (R57). -/
def demandPublication (b : BasinId) (s : State) : State :=
  if s.store.basins[b].inUse then
    publishBasin b (basinPublished s.store.basins[b] s.points[basinPoint b].published s.basins[b]) s
  else s

/-- Basin Demand forms basin `b`'s state afresh on a write of its record (R46, R47). -/
def demandRewrite (b : BasinId) (s : State) : State :=
  publishBasin b (basinRewritten s.store.basins[b] s.points[basinPoint b].published s.basins[b]) s

/-! ## The checks of a basin record write (R45) -/

/-- The steps of a record, the first `stepCount` slots (R44). -/
def BasinRec.stepList (r : BasinRec) : List Step := r.steps.toList.take r.stepCount

/-- A level in −30000 to +30000. -/
def levelInRange (l : Int) : Bool := decide (-30000 ≤ l) && decide (l ≤ 30000)

/-- Check 2 of R45 over the record's values: 1 to 6 steps, every field in its range, blind step 0 to m. The in use
field, yes or no, is checked as the octet that carries it (`checkBasin`). -/
def basinInRange (r : BasinRec) : Bool :=
  decide (1 ≤ r.stepCount) && decide (r.stepCount ≤ 6)
  && decide (r.band ≤ 2000) && decide (r.holdTime ≤ 3600) && decide (r.hysteresis ≤ 1000)
  && r.stepList.all (fun t => levelInRange t.threshold && decide (t.target ≤ 786420))
  && levelInRange r.stopLevel && levelInRange r.wakeLevel && levelInRange r.criticalLevel
  && decide (r.overrideAllowed ≤ 1) && decide (r.emergency ≤ 500000)
  && decide (1 ≤ r.priority) && decide (r.priority ≤ 4) && decide (r.outletLoss ≤ 2000)
  && decide (r.blindStep ≤ r.stepCount)

/-- Check 3 of R45: thresholds ascend, targets do not descend, and the stop, wake and critical levels
stand about threshold 1. -/
def basinInOrder (r : BasinRec) : Bool :=
  ascending (r.stepList.map Step.threshold) && nonDecreasing (r.stepList.map Step.target)
  && decide (r.stopLevel < threshold r 1 - r.hysteresis) && decide (r.wakeLevel ≤ threshold r 1)
  && decide (threshold r 1 < r.criticalLevel)

/-- The checks of R45 after that of the record number, in its order: the reason of the first that fails. `inUse` is
the octet of the written in use field as a number, and `r` the other fields: 0 is off, and checked against check 4
alone; any other value but 1 lies outside the range of R44, yes or no, which check 2 takes with every field's. -/
def checkBasin (s : State) (b : BasinId) (inUse : Nat) (r : BasinRec) : Option Reason :=
  if decide (inUse ≠ 0) && !(decide (inUse ≤ 1) && basinInRange r) then some .range
  else if decide (inUse ≠ 0) && !basinInOrder r then some .order
  else if s.store.basins[b].inUse && decide (inUse = 0)
      && allUnits.any (fun u => decide (s.store.units[u].basin = b) && busyState s.units[u].state) then some .inUse
  else none

end Sys2Proof.Machine
end

