-- ==== Sys2Proof/Machine/Gauges.lean ====
section
/-! DEFINITION. The Level Voter: taking a gauge reading (R5 to R9, R13), the vote (R10 to R14), the
publication of points and of the river level in use (R15, R16), gauge polling (R17 to R22), and the
gauge and river record writes (R1 to R3). The meanings of LEVEL_REPORT, of the stale, lost and gauge
poll timers' expiries and of the two poll timeouts. -/

namespace Sys2Proof.Machine

open Sys2Proof

/-! ## Points and usable gauges -/

/-- Whether a point is in use: the river always, a basin's point while its record is (R4). -/
def pointInUse (s : State) (p : PointId) : Bool :=
  match pointBasin p with
  | some b => s.store.basins[b].inUse
  | none => true

/-- The agreement band w of a point (R3, R44). -/
def pointBand (s : State) (p : PointId) : Nat :=
  match pointBasin p with
  | some b => s.store.basins[b].band
  | none => s.store.river.band

/-- The lost hold time of a point (R3, R44). -/
def pointHold (s : State) (p : PointId) : Nat :=
  match pointBasin p with
  | some b => s.store.basins[b].holdTime
  | none => s.store.river.holdTime

/-- The point an in-use gauge record names (R1). -/
def gaugePoint (r : GaugeRec) : Option PointId := if r.inUse then pointNumbered r.point else none

/-- Whether a gauge is usable (R9). -/
def usable (s : State) (g : GaugeId) : Bool :=
  s.store.gauges[g].inUse && decide (s.gauges[g].status = .fresh) && decide (s.gauges[g].health = .healthy)
  && s.gauges[g].faulty.isNone

/-- The usable gauges of a point with their levels, in gauge-number order (R9). -/
def usableAt (s : State) (p : PointId) : List (GaugeId × Int) :=
  allGauges.filterMap fun g =>
    if gaugePoint s.store.gauges[g] = some p && usable s g then s.gauges[g].level.map fun l => (g, l) else none

/-! ## The vote (R11, R12, R14) -/

/-- The median of three levels (R11). -/
def median (a b c : Int) : Int := max (min a b) (min (max a b) c)

/-- Whether two levels differ by more than w. -/
def beyond (w : Nat) (a b : Int) : Bool := decide (w < (a - b).natAbs)

/-- The point state and voted level of a vote with the levels of one, two or three usable gauges (R11);
none when no gauge is usable. R1 lets a point have three gauges at most (log entry 34). -/
def voteOf (w : Nat) : List Int → Option (PointState × Int)
  | [] => none
  | [a] => some (.degraded, a)
  | [a, b] => some (if beyond w a b then (.disputed, max a b) else (.reduced, (a + b) / 2))
  | a :: b :: c :: _ => some (.full, median a b c)

/-- A point that loses its last usable gauge (R14): LOST, its lost timer armed, a hold time of 0 setting
the hold-expired flag at once. A LOST or UNSEEN point is left as it is. -/
def pointLost (hold : Nat) (p : PointRt) : PointRt :=
  match p.cur.state with
  | .unseen => p
  | .lost => p
  | _ => { p with cur := ⟨.lost, p.cur.level, decide (hold = 0)⟩, lostTimer := armed hold }

/-- A point after a vote over the levels of its usable gauges (R11, R14). -/
def pointVoted (w hold : Nat) (levels : List Int) (p : PointRt) : PointRt :=
  match voteOf w levels with
  | some (st, l) => { p with cur := ⟨st, some l, false⟩, lostTimer := none }
  | none => pointLost hold p

/-- A non-counting vote of point `p` (R10). A point not in use is not voted (R4). -/
def votePoint (p : PointId) (s : State) : State :=
  if pointInUse s p then
    { s with points := upd s.points p (pointVoted (pointBand s p) (pointHold s p) ((usableAt s p).map Prod.snd)) }
  else s

/-- A gauge after a counting vote over three gauges that found it at level `l` against median `m` (R12). -/
def gaugeCounted (w : Nat) (m l : Int) (g : GaugeRt) : GaugeRt :=
  if beyond w l m then
    if g.disagree + 1 ≥ 3 then { g with disagree := 0, agree := 0, faulty := some .disagree }
    else { g with disagree := g.disagree + 1 }
  else { g with disagree := 0 }

/-- Disagree counting (R12): the three usable gauges' counts, the FAULTY marks and GAUGE FAULT. -/
def countDisagreement (p : PointId) (s : State) : State :=
  match usableAt s p with
  | [a, b, c] =>
    let m := median a.2 b.2 c.2
    let w := pointBand s p
    let s' := { s with
      gauges := upd (upd (upd s.gauges a.1 (gaugeCounted w m a.2)) b.1 (gaugeCounted w m b.2)) c.1
        (gaugeCounted w m c.2) }
    if [a, b, c].any (fun x => beyond w x.2 m && decide (s.gauges[x.1].disagree + 1 ≥ 3)) then
      raiseCondition .gaugeFault s'
    else s'
  | _ => s

/-! ## Publication (R15, R16) -/

/-- The river level in use and its source (R16). -/
def riverLevelInUse (store : Store) (p : PointPub) : RiverUse :=
  match p.state, p.level with
  | .unseen, _ => ⟨store.river.fallback, .fallback⟩
  | .lost, some l => if p.holdExpired then ⟨store.river.fallback, .fallback⟩ else ⟨l, .held⟩
  | _, some l => ⟨l, .voted⟩
  | _, none => ⟨store.river.fallback, .fallback⟩

/-- POINT LOST is pending while any in-use point is LOST, or UNSEEN with its hold-expired flag set (R14). -/
def anyLost (s : State) : Bool :=
  allPoints.any fun p =>
    pointInUse s p
    && (decide (s.points[p].published.state = .lost)
        || (decide (s.points[p].published.state = .unseen) && s.points[p].published.holdExpired))

/-- POINT DISPUTED is pending while any in-use point is DISPUTED (R15). -/
def anyDisputed (s : State) : Bool :=
  allPoints.any fun p => pointInUse s p && decide (s.points[p].published.state = .disputed)

/-- Station Control re-derives POINT LOST and POINT DISPUTED (R15). -/
def pointConditions (s : State) : State :=
  let s1 := reportCondition .pointLost (anyLost s) s
  reportCondition .pointDisputed (anyDisputed s1) s1

/-- The river level in use is formed from the river point, and the estimates of every unit with it
(R16, R37). -/
def riverPublication (s : State) : State :=
  reformAll { s with riverUse := riverLevelInUse s.store s.points[riverPoint].published }

/-- The Level Voter publishes point `p`'s values where they differ from the last published (R15), with
`react` what Basin Demand and the Curve Evaluator do with a basin point. The change is a trigger. -/
def publishPointWith (react : BasinId → State → State) (p : PointId) (s : State) : State :=
  if s.points[p].cur = s.points[p].published then s
  else
    let s1 := { s with points := upd s.points p fun x => { x with published := x.cur } }
    let s2 :=
      match pointBasin p with
      | some b => react b s1
      | none => riverPublication s1
    trigger (pointConditions s2)

/-- What a publication of basin `b`'s point does at Basin Demand and the Curve Evaluator (R15). -/
def basinReaction (b : BasinId) (s : State) : State := reformBasin b (demandPublication b s)

/-- The publication of a point (R15). -/
def publishPoint (p : PointId) (s : State) : State := publishPointWith basinReaction p s

/-- A non-counting vote and its publication. -/
def revote (p : PointId) (s : State) : State := publishPoint p (votePoint p s)

/-- A counting vote and its publication (R12): the vote reads the marks the counting has left. -/
def countingVote (p : PointId) (s : State) : State :=
  if pointInUse s p then publishPoint p (votePoint p (countDisagreement p s)) else s

/-! ## Taking a reading -/

/-- The in-use gauge whose node an address is (R162). -/
def gaugeAtNode (s : State) (a : Octet) : Option GaugeId :=
  allGauges.find? fun g => s.store.gauges[g].inUse && decide (s.store.gauges[g].node = a.toNat)

/-- Whether a level lies within the bounds of a gauge record (R7). -/
def levelValid (r : GaugeRec) (l : Int) : Bool := decide (r.validMin ≤ l) && decide (l ≤ r.validMax)

/-- A gauge as it takes a report's reading, none for a malformed one (R5 to R7). -/
def gaugeSampled (r : GaugeRec) (reading : Option (Health × Int)) (g : GaugeRt) : GaugeRt :=
  match reading with
  | none =>
    { g with
      status := .malformed, reading := none, level := none, health := .unknown, age := some 0,
      staleTimer := none, miss := 0 }
  | some (h, x) =>
    let l := x + r.offset
    { g with
      status := if levelValid r l then .fresh else .outOfRange
      reading := some x, level := some l, health := h, age := some 0,
      staleTimer := if levelValid r l then some r.staleAge else none
      miss := 0 }

/-- A report answers the gauge's poll while its reply timer runs (R18, R22). -/
def gaugeAnswered (g : GaugeRt) : GaugeRt :=
  if g.replyTimer.isSome then { g with poll := none, replyTimer := none } else g

/-- The readmission test of a FAULTY gauge against the point's voted level, with band w (R13). -/
def gaugeReadmitted (w : Nat) (voted : Option Int) (g : GaugeRt) : GaugeRt :=
  match g.faulty, voted with
  | some _, some v =>
    let agrees :=
      decide (g.status = .fresh) && decide (g.health = .healthy)
      && (g.level.map fun l => !beyond w l v).getD false
    if agrees then
      if g.agree + 1 ≥ 5 then { g with faulty := none, agree := 0 } else { g with agree := g.agree + 1 }
    else { g with agree := 0 }
  | _, _ => g

/-- The end of gauge `g`'s demand poll is reported to the Dispatch Engine, which takes the gauge off the
candidate's confirmation list (R114). -/
def endDemandPoll (g : GaugeId) (s : State) : State :=
  { s with
    engine := { s.engine with candidate := s.engine.candidate.map fun c => { c with confirm := c.confirm.erase g } } }

/-- Gauge `g` takes a report: the sample (R5 to R7), the poll answered (R18), and the readmission test
against the voted level as it stands before the vote (R13). -/
def takeSample (g : GaugeId) (payload : List Octet) (s : State) : State :=
  let r := s.store.gauges[g]
  let readmit : GaugeRt → GaugeRt :=
    match gaugePoint r with
    | some p => gaugeReadmitted (pointBand s p) s.points[p].cur.level
    | none => id
  { s with
    gauges := upd s.gauges g fun x => readmit (gaugeAnswered (gaugeSampled r (levelReading r.encoding payload) x)) }

/-- A LEVEL REPORT taken by gauge `g` (R7): the sample, then the counting vote of its point and the
publication, then the end of a demand poll it has answered (R114). -/
def takeReading (g : GaugeId) (payload : List Octet) (s : State) : State :=
  let ended := s.gauges[g].replyTimer.isSome && decide (s.gauges[g].poll = some .demand)
  let s1 := takeSample g payload s
  let s2 :=
    match gaugePoint s.store.gauges[g] with
    | some p => countingVote p s1
    | none => s1
  if ended then endDemandPoll g s2 else s2

/-- Whether a delivered telegram is the one a command brings. -/
def sameTelegram (kind src : Octet) (payload : List Octet) (t : Telegram) : Bool :=
  decide (t.kind = kind) && decide (t.src = src) && decide (t.payload = payload)

/-- LEVEL_REPORT (R5 to R7, R13, R22): a report from a node of no in-use gauge is discarded (R162). -/
def execLevelReport (src : Octet) (payload : List Octet) (s : State) : Host.Outcome State Fault Refusal :=
  whenReady s fun s =>
    let s0 := takeDelivered (sameTelegram kindLevelReport src payload) s
    match gaugeAtNode s src with
    | some g => takeReading g payload s0
    | none => s0

/-! ## Timers of gauges and points -/

/-- A gauge's stale timer runs out (R8). -/
def staleExpiry (g : GaugeId) (s : State) : State :=
  if s.gauges[g].staleTimer.isSome then
    let s1 := { s with gauges := upd s.gauges g fun x => { x with status := .stale, staleTimer := none } }
    match gaugePoint s.store.gauges[g] with
    | some p => revote p s1
    | none => s1
  else s

/-- STALE_TIMER_EXPIRY (R8). -/
def execStaleTimerExpiry (gauge : Nat) (s : State) : Host.Outcome State Fault Refusal :=
  onGauge gauge s staleExpiry

/-- A point's lost timer runs out while it is LOST or UNSEEN (R14). -/
def lostExpiry (p : PointId) (s : State) : State :=
  if s.points[p].lostTimer.isSome then
    publishPoint p
      { s with
        points := upd s.points p fun x => { x with cur := { x.cur with holdExpired := true }, lostTimer := none } }
  else s

/-- LOST_TIMER_EXPIRY (R14, R15). -/
def execLostTimerExpiry (point : Nat) (s : State) : Host.Outcome State Fault Refusal :=
  onPoint point s lostExpiry

/-! ## Polling -/

/-- The interval the gauge poll timer runs with (R17). -/
def gaugeInterval (s : State) : Nat :=
  if s.station.standby then s.store.station.standbyPollInterval else s.store.station.gaugePollInterval

/-- A background entry for gauge `g`, unless the gauge has a poll; one still in the due list is a skipped
poll (R17). -/
def placeBackground (g : GaugeId) (s : State) : State :=
  if s.store.gauges[g].inUse then
    if s.ring.demandDue.contains g || s.ring.backgroundDue.contains g then bump Counters.upSkippedPolls s
    else if s.gauges[g].poll.isSome then s
    else
      { s with
        gauges := upd s.gauges g fun x => { x with poll := some .background }
        ring := { s.ring with backgroundDue := s.ring.backgroundDue ++ [g] } }
  else s

/-- Background entries for every in-use gauge in number order (R17, R23). -/
def placeBackgroundRound (s : State) : State := allGauges.foldl (fun s g => placeBackground g s) s

/-- The gauge poll timer runs out (R17). -/
def gaugePollExpiry (s : State) : State :=
  if s.pollTimers.gauge.isSome then
    fillPolls (placeBackgroundRound
      { s with pollTimers := { s.pollTimers with gauge := some (gaugeInterval s) } })
  else s

/-- GAUGE_POLL_TIMER_EXPIRY (R17). -/
def execGaugePollTimerExpiry (s : State) : Host.Outcome State Fault Refusal := whenReady s gaugePollExpiry

/-- Whether a gauge's poll of a kind is transmitted and timed. -/
def timedPoll (k : PollKind) (g : GaugeRt) : Bool := decide (g.poll = some k) && g.replyTimer.isSome

/-- A background poll's reply timer runs out (R19). -/
def backgroundTimeout (g : GaugeId) (s : State) : State :=
  if timedPoll .background s.gauges[g] then
    { s with gauges := upd s.gauges g fun x => { x with poll := none, replyTimer := none, miss := countUp 255 x.miss } }
  else s

/-- BACKGROUND_POLL_TIMEOUT (R19). -/
def execBackgroundPollTimeout (gauge : Nat) (s : State) : Host.Outcome State Fault Refusal :=
  onGauge gauge s backgroundTimeout

/-- A gauge after its demand poll has timed out (R21). -/
def gaugeSilent (g : GaugeRt) : GaugeRt :=
  { g with poll := none, replyTimer := none, faulty := some .silent, disagree := 0, agree := 0 }

/-- A demand poll's reply timer runs out (R21): the mark and GAUGE FAULT, the vote and its publication,
then the end of the poll. -/
def demandTimeout (g : GaugeId) (s : State) : State :=
  if timedPoll .demand s.gauges[g] then
    let s1 := raiseCondition .gaugeFault { s with gauges := upd s.gauges g gaugeSilent }
    let s2 :=
      match gaugePoint s.store.gauges[g] with
      | some p => revote p s1
      | none => s1
    endDemandPoll g s2
  else s

/-- DEMAND_POLL_TIMEOUT (R21). -/
def execDemandPollTimeout (gauge : Nat) (s : State) : Host.Outcome State Fault Refusal :=
  onGauge gauge s demandTimeout

/-- The gauges whose levels confirm a start in basin `b`: the in-use gauges of its point and of the river
point (R20). -/
def confirmationGauges (s : State) (b : BasinId) : List GaugeId :=
  allGauges.filter fun g =>
    gaugePoint s.store.gauges[g] = some (basinPoint b) || gaugePoint s.store.gauges[g] = some riverPoint

/-- A demand poll for gauge `g`, by what the gauge already has (R20). -/
def demandPoll (g : GaugeId) (s : State) : State :=
  match s.gauges[g].poll with
  | some .demand => s
  | none =>
    { s with
      gauges := upd s.gauges g fun x => { x with poll := some .demand }
      ring := { s.ring with demandDue := s.ring.demandDue ++ [g] } }
  | some .background =>
    let s1 := { s with gauges := upd s.gauges g fun x => { x with poll := some .demand } }
    if s.ring.backgroundDue.contains g then
      { s1 with
        ring := { s.ring with backgroundDue := s.ring.backgroundDue.erase g, demandDue := s.ring.demandDue ++ [g] } }
    else s1

/-- The Level Voter confirms the levels of basin `b` (R20). -/
def confirmLevels (b : BasinId) (s : State) : State :=
  fillPolls ((confirmationGauges s b).foldl (fun s g => demandPoll g s) s)

/-! ## Gauge and river record writes -/

/-- Check 2 of R1: every field lies in its range. -/
def gaugeInRange (r : GaugeRec) : Bool :=
  decide (1 ≤ r.node) && decide (r.node ≤ 31) && decide (1 ≤ r.point) && decide (r.point ≤ 5)
  && decide (r.encoding ≤ 1) && levelInRange r.offset && levelInRange r.validMin && levelInRange r.validMax
  && decide (2 ≤ r.staleAge) && decide (r.staleAge ≤ 600)

/-- The in-use gauge records other than `g`'s. -/
def otherGauges (s : State) (g : GaugeId) : List GaugeRec :=
  (allGauges.filter fun x => decide (x ≠ g) && s.store.gauges[x].inUse).map fun x => s.store.gauges[x]

/-- The checks of R1, in its order: the reason of the first that fails. -/
def checkGauge (s : State) (g : GaugeId) (r : GaugeRec) : Option Reason :=
  if !r.inUse then none
  else if !gaugeInRange r then some .range
  else if r.validMax < r.validMin then some .order
  else if 3 ≤ ((otherGauges s g).countP fun x => decide (x.point = r.point)) then some .capacity
  else if (otherGauges s g).any fun x => decide (x.node = r.node) then some .inUse
  else none

/-- The poll queue after a target's poll has ended: its entry is still transmitted, but is no longer the
target's outstanding poll (R2, R67). -/
def orphanPolls (t : PollTarget) (l : List PollEntry) : List PollEntry :=
  l.map fun e => if e.target = t then { e with live := false } else e

/-- A gauge record is replaced and the gauge's runtime state returned to its starting values, its poll
ended (R2). -/
def replaceGauge (g : GaugeId) (r : GaugeRec) (s : State) : State :=
  let ring := removeDue (.gauge g) s.ring
  { s with
    store := { s.store with gauges := upd s.store.gauges g fun _ => r }
    gauges := upd s.gauges g fun _ => GaugeRt.initial
    ring := { ring with polls := orphanPolls (.gauge g) ring.polls } }

/-- A gauge record write is applied (R2): the points watched before and after are voted, once each, and
the write is a trigger. -/
def applyGauge (g : GaugeId) (r : GaugeRec) (s : State) : State :=
  let s1 := replaceGauge g r s
  let s2 := if s.gauges[g].poll = some .demand then endDemandPoll g s1 else s1
  let before := (gaugePoint s.store.gauges[g]).toList
  let after := (gaugePoint r).toList
  trigger ((before ++ after.filter fun p => !before.contains p).foldl (fun s p => revote p s) s2)

/-- The checks of R3: the reason of the first that fails. -/
def checkRiver (r : RiverRec) : Option Reason :=
  if decide (r.band ≤ 2000) && decide (r.holdTime ≤ 3600) && levelInRange r.fallback then none else some .range

/-- The fallback stage as rewritten is in use from the moment of acceptance, and is published where the
river level in use differs (R3, R16). -/
def riverFallback (s : State) : State :=
  if riverLevelInUse s.store s.points[riverPoint].published = s.riverUse then s else trigger (riverPublication s)

/-- A river record write is applied (R3): the river point is voted without counting, the fallback stage
taken up, every estimate formed again (R38), and the write is a trigger (R100). -/
def applyRiver (r : RiverRec) (s : State) : State :=
  trigger (reformAll (riverFallback (revote riverPoint { s with store := { s.store with river := r } })))

/-- A basin's point as its record comes into use: UNSEEN, the lost timer armed (R4, R14). -/
def pointIntoUse (hold : Nat) (p : PointRt) : PointRt :=
  { p with cur := ⟨.unseen, none, decide (hold = 0)⟩, lostTimer := armed hold }

/-- A basin's point as its record goes out of use (R4). -/
def pointOutOfUse (p : PointRt) : PointRt := { p with cur := .unseen, lostTimer := none }

/-- What the Level Voter does with basin `b`'s point on a write of its record, `was` the record's in use
before it (R4). -/
def pointRewritten (b : BasinId) (was : Bool) (s : State) : State :=
  match was, s.store.basins[b].inUse with
  | false, false => s
  | true, false => { s with points := upd s.points (basinPoint b) pointOutOfUse }
  | true, true => votePoint (basinPoint b) s
  | false, true =>
    votePoint (basinPoint b)
      { s with points := upd s.points (basinPoint b) (pointIntoUse s.store.basins[b].holdTime) }

/-- A basin record write is applied, in the order of R46: the Level Voter's point and its publication,
then Basin Demand's state formed afresh, then the estimates of the basin's units; the write is a
trigger. Basin Demand forms its state once, afresh (log entry 21). -/
def applyBasin (b : BasinId) (r : BasinRec) (s : State) : State :=
  let was := s.store.basins[b].inUse
  let s1 := { s with store := { s.store with basins := upd s.store.basins b fun _ => r } }
  let s2 := publishPointWith (fun _ s => s) (basinPoint b) (pointRewritten b was s1)
  trigger (reformBasin b (demandRewrite b s2))

end Sys2Proof.Machine
end

