-- ==== Sys2Proof/Machine/UnitOps.lean ====
section
/-! DEFINITION. The operations of the Unit Controller that every family shares: the transition of a unit's
state with all that follows it at the stack, the allowance, the candidate, the horn and the conditions
(R75, R94, R95, R99, R116), the unit timers (R76, R78, R79, R81), the orders and their slots (R85 to
R89), and the loss of an enrolment (R67). -/

namespace Sys2Proof.Machine

open Sys2Proof

/-! ## Classes of unit states -/

/-- The states in which a unit stands on the start stack (4.6, R94). -/
def onStack : UnitState → Bool
  | .starting => true
  | .running => true
  | .raising => true
  | .lowering => true
  | _ => false

/-- The states of the candidate (R97). -/
def candidateState : UnitState → Bool
  | .confirming => true
  | .warning => true
  | _ => false

/-- The states in which a unit keeps its minimum run timer (4.6, R79). -/
def keepsMinRun : UnitState → Bool
  | .running => true
  | .raising => true
  | .lowering => true
  | _ => false

/-- The states in which a holder keeps the allowance for a purpose (R95). -/
def keepsAllowance : Purpose → UnitState → Bool
  | .start, .confirming => true
  | .start, .warning => true
  | .start, .starting => true
  | .raise, .raising => true
  | _, _ => false

/-- Whether a unit is committed (R98). -/
def committed (r : UnitRt) : Bool :=
  onStack r.state || ((decide (r.state = .localControl) || decide (r.state = .missing)) && r.stage.isSome)

/-- The station is idle while no unit other than a LOCAL unit is committed and there is no candidate (R99). -/
def isIdle (s : State) : Bool :=
  s.engine.candidate.isNone
  && allUnits.all fun u => decide (s.units[u].state = .localControl) || !committed s.units[u]

/-! ## What follows a unit's transition -/

/-- A change of the idle state is reported to Station Control, which arms the horn rearm timer as the
station becomes idle and stops it as it is idle no longer (R99, R150). -/
def reportIdle (s : State) : State :=
  if isIdle s = s.station.idle then s
  else
    { s with
      station := { s.station with idle := isIdle s }
      horn := { s.horn with rearmTimer := if isIdle s then some s.store.station.hornRearm else none } }

/-- UNIT TRIPPED is pending while any unit is TRIPPED (R71), UNIT SILENT while any is MISSING (R83). -/
def unitConditions (s : State) : State :=
  let s1 := reportCondition .unitTripped (allUnits.any fun u => decide (s.units[u].state = .tripped)) s
  reportCondition .unitSilent (allUnits.any fun u => decide (s1.units[u].state = .missing)) s1

/-- The warning period ends without its expiry: the horn line goes inactive, the horn-required flag stays
(R148). -/
def endWarning (s : State) : State := { s with horn := { s.horn with line := false, warningTimer := none } }

/-- The stack as unit `u` enters a state: pushed on top if it stands on the stack there and did not, taken
out if it does not (R94). -/
def stackMoved (u : UnitId) (st : UnitState) (l : List UnitId) : List UnitId :=
  if onStack st then (if l.contains u then l else l ++ [u]) else l.filter fun v => decide (v ≠ u)

/-- The allowance as unit `u` enters a state: a holder that leaves the states of its purpose gives it up
(R95). -/
def allowanceMoved (u : UnitId) (st : UnitState) (a : Allowance) : Allowance :=
  match a with
  | .held v p => if v = u && !keepsAllowance p st then .free else a
  | _ => a

/-- The candidate record as unit `u` enters a state: it ceases as its unit leaves CONFIRMING and WARNING
(R97). -/
def candidateMoved (u : UnitId) (st : UnitState) (c : Option Candidate) : Option Candidate :=
  match c with
  | some x => if x.unit = u && !candidateState st then none else c
  | none => none

/-- The Dispatch Engine as unit `u` enters a state. -/
def engineMoved (u : UnitId) (st : UnitState) (e : Engine) : Engine :=
  { e with
    stack := stackMoved u st e.stack
    allowance := allowanceMoved u st e.allowance
    candidate := candidateMoved u st e.candidate }

/-- A unit as it enters a state with a stage: the timers that the state does not run stop (4.6), and the
trip reason is kept only while TRIPPED (R82). -/
def enterState (st : UnitState) (x : Option Stage) (r : UnitRt) : UnitRt :=
  { r with
    state := st
    stage := x
    trip := if st = .tripped then r.trip else none
    minRun := if keepsMinRun st then r.minRun else .idle
    restTimer := none
    confirmTimer := none }

/-- Unit `u` enters state `st` with stage `x`, with all that follows: the stack, the allowance, the
candidacy and its warning period, the station's idle state, the conditions UNIT TRIPPED and UNIT SILENT,
and the estimate record formed again when the stage changes (R39). -/
def moveUnit (u : UnitId) (st : UnitState) (x : Option Stage) (s : State) : State :=
  let s1 := { s with
    units := upd s.units u (enterState st x)
    engine := engineMoved u st s.engine }
  let s2 := if s.engine.candidate.isSome && s1.engine.candidate.isNone then endWarning s1 else s1
  let s3 := unitConditions (reportIdle s2)
  if s.units[u].stage = x then s3 else reformUnit u s3

/-- A unit's event taken outside an evaluation: a change of the unit's state or stage is a trigger, and so
is a change of the allowance to FREE (R95, R100; an event that is both is two triggers, log entry 6). -/
def unitEvent (u : UnitId) (f : State → State) (s : State) : State :=
  let t := f s
  triggerIf (decide (s.engine.allowance ≠ .free ∧ t.engine.allowance = .free))
    (triggerIf (decide (t.units[u].state ≠ s.units[u].state ∨ t.units[u].stage ≠ s.units[u].stage)) t)

/-! ## Unit timers -/

/-- A time field of a type record (R25). -/
def timeField (t : TypeRec) : Config.TimeField → Nat
  | .minimumRun => t.minRun
  | .minimumRest => t.minRest
  | .startConfirm => t.startConfirm
  | .stopConfirm => t.stopConfirm

/-- The duration a unit timer is armed with: the field of the unit's type, and a free value while that
type's record is not in use (R25, log entry 9). -/
def typeTime (s : State) (u : UnitId) (f : Config.TimeField) : Nat :=
  if (typeRecOf s u).inUse then timeField (typeRecOf s u) f else Config.untypedTime s.freeCount f

/-- The free values' counter advances when unit `u`'s type record is not in use. -/
def spendFree (u : UnitId) (s : State) : State :=
  if (typeRecOf s u).inUse then s else { s with freeCount := s.freeCount + 1 }

/-- Unit `u`'s runtime state changed in a way that is no transition. -/
def setUnit (u : UnitId) (f : UnitRt → UnitRt) (s : State) : State := { s with units := upd s.units u f }

/-- The confirm timer is armed, or armed again, with a time of the unit's type (R78, R80, R81). -/
def armConfirm (u : UnitId) (f : Config.TimeField) (s : State) : State :=
  spendFree u (setUnit u (fun r => { r with confirmTimer := some (typeTime s u f) }) s)

/-- The minimum run timer is armed; a minimum run of 0 sets it elapsed (R78). -/
def armMinRun (u : UnitId) (s : State) : State :=
  let d := typeTime s u .minimumRun
  spendFree u (setUnit u (fun r => { r with minRun := if d = 0 then .elapsed else .running d }) s)

/-- Unit `u` goes RESTING with its rest timer armed in full; a minimum rest of 0 takes it to READY as the
timer is armed (R76). -/
def goResting (u : UnitId) (s : State) : State :=
  let d := typeTime s u .minimumRest
  let s1 := spendFree u (moveUnit u .resting none s)
  if d = 0 then moveUnit u .ready none s1 else setUnit u (fun r => { r with restTimer := some d }) s1

/-! ## Orders (R85 to R89) -/

/-- The rank of an order (R86). -/
def Order.rank : Order → Nat
  | .halt => 3
  | .stop => 2
  | _ => 1

/-- Whether an order queue entry holds unit `u`'s queued slot (R165). -/
def holdsSlot (u : UnitId) (e : OrderEntry) : Bool :=
  match e.item with
  | .unitOrder v _ => decide (v = u) && !e.dropped
  | _ => false

/-- The order queue entry in unit `u`'s queued slot. -/
def queuedEntry (s : State) (u : UnitId) : Option OrderEntry := s.ring.orders.find? (holdsSlot u)

/-- The order an order queue entry carries, if it is a unit order. -/
def OrderEntry.order (e : OrderEntry) : Option Order :=
  match e.item with
  | .unitOrder _ o => some o
  | _ => none

/-- The order in unit `u`'s queued slot. -/
def queuedOrder (s : State) (u : UnitId) : Option Order := (queuedEntry s u).bind OrderEntry.order

/-- Whether a unit holds no queued, in-flight or pending order (R110, R111). -/
def ordersFree (s : State) (u : UnitId) : Bool :=
  (queuedEntry s u).isNone && s.units[u].inFlight.isNone && s.units[u].pendingOrder.isNone

/-- The turn of unit `u`'s entry as order `o` takes its place: a HALT that takes another order's place is deposited
now, one that takes a HALT's place keeps its turn (R86, R167, log entry 42). -/
def replacedTurn (o : Order) (l : List OrderEntry) (e : OrderEntry) : Nat :=
  if o = .halt then (if isHalt e then e.haltTurn else nextTurn l) else 0

/-- The order queue with unit `u`'s queued order replaced in its place (R86). -/
def replaceOrder (u : UnitId) (o : Order) (l : List OrderEntry) : List OrderEntry :=
  l.map fun e =>
    if holdsSlot u e && !e.sending then { e with item := .unitOrder u o, haltTurn := replacedTurn o l e } else e

/-- The order that stays where a new one meets a held one: the new one if it ranks at or above (R86). -/
def outranked (new held : Order) : Order := if held.rank ≤ new.rank then new else held

/-- Order `o` is issued for unit `u` (R86); an order on the line counts as in flight (R165). -/
def issueOrder (u : UnitId) (o : Order) (s : State) : State :=
  let onLine := ((queuedEntry s u).map OrderEntry.sending).getD false
  if s.units[u].inFlight.isSome || onLine then
    setUnit u (fun r => { r with pendingOrder := some ((r.pendingOrder.map (outranked o)).getD o) }) s
  else
    match queuedOrder s u with
    | some held => { s with ring := { s.ring with orders := replaceOrder u (outranked o held) s.ring.orders } }
    | none => depositOrder (.unitOrder u o) s

/-- The pending order is deposited as if newly issued (R88, R89). DEDUCED (log entry 41): so it is in every mode,
a START or RESTAGE that was issued before the mode became SETUP among them, since what lapses in SETUP is a request
(R85) and a pending order has been issued already. -/
def releasePending (u : UnitId) (s : State) : State :=
  match s.units[u].pendingOrder with
  | some o => issueOrder u o (setUnit u (fun r => { r with pendingOrder := none }) s)
  | none => s

/-- Whether an order queue entry is unit `u`'s, not a HALT, and not on the line. -/
def withdrawable (u : UnitId) (e : OrderEntry) : Bool := holdsSlot u e && !isHalt e && !e.sending

/-- The unit's queued and pending START, RESTAGE and STOP orders are withdrawn; a HALT stays, and so does
an order on the line (R75, R91, R165). -/
def withdrawOrders (u : UnitId) (s : State) : State :=
  setUnit u (fun r => { r with pendingOrder := if r.pendingOrder = some .halt then some .halt else none })
    { s with ring := { s.ring with orders := s.ring.orders.filter fun e => !withdrawable u e } }

/-- Unit `u` leaves service for TRIPPED, LOCAL or MISSING (R75). -/
def leaveService (u : UnitId) (st : UnitState) (x : Option Stage) (s : State) : State :=
  withdrawOrders u (moveUnit u st x s)

/-- Unit `u` goes TRIPPED with a reason (R71, R82). -/
def tripUnit (u : UnitId) (reason : TripReason) (s : State) : State :=
  leaveService u .tripped none (setUnit u (fun r => { r with trip := some reason }) s)

/-- A failure the controller declares: a HALT is issued and the unit goes TRIPPED (R82). -/
def declareFailure (u : UnitId) (reason : TripReason) (s : State) : State :=
  tripUnit u reason (issueOrder u .halt s)

/-- Unit `u` goes MISSING at the stage of its last report (R83). -/
def goMissing (u : UnitId) (s : State) : State :=
  leaveService u .missing (s.units[u].lastReport.bind fun r => r.motion.stage) s

/-- The states a miss or an unanswered order takes to MISSING: any but OUT OF SERVICE, MISSING and VACANT
(R83). -/
def mayGoMissing : UnitState → Bool
  | .outOfService => false
  | .missing => false
  | .vacant => false
  | _ => true

/-! ## Requests (R77, R80, R81, R85) -/

/-- A STOP request presumes STARTING, RUNNING, RAISING or LOWERING (R81). -/
def mayStop (s : State) (u : UnitId) : Bool := onStack s.units[u].state

/-- A manual HALT request presumes those states or STOPPING (R81, R146). -/
def mayHalt (s : State) (u : UnitId) : Bool := onStack s.units[u].state || decide (s.units[u].state = .stopping)

/-- A RESTAGE presumes a RUNNING unit of a type with both stages, at the other stage (R80), and lapses in
SETUP (R85). -/
def mayRestage (s : State) (u : UnitId) (x : Stage) : Bool :=
  decide (s.station.mode ≠ .setup) && decide (s.units[u].state = .running)
  && decide (s.units[u].stage = some x.other) && twoStage (typeRecOf s u)

/-- Issuing START presumes CONFIRMING or WARNING (R77), and lapses in SETUP (R85). -/
def mayStart (s : State) (u : UnitId) : Bool :=
  decide (s.station.mode ≠ .setup) && candidateState s.units[u].state

/-- A STOP or HALT is issued and the unit goes STOPPING (R81). -/
def stopUnit (o : Order) (u : UnitId) (s : State) : State :=
  armConfirm u .stopConfirm (moveUnit u .stopping none (issueOrder u o s))

/-- A RESTAGE is issued and the unit goes RAISING or LOWERING (R80). -/
def restageUnit (u : UnitId) (x : Stage) (s : State) : State :=
  armConfirm u .startConfirm
    (moveUnit u (if x = .high then .raising else .lowering) (some x) (issueOrder u (.restage x) s))

/-- A unit record changed in the table store (R60). -/
def setRecord (u : UnitId) (f : UnitRec → UnitRec) (s : State) : State :=
  { s with store := { s.store with units := upd s.store.units u f } }

/-- START is issued at the unit's stage: the unit goes STARTING, its start count rises and its confirm timer
is armed (R77). -/
def startUnit (u : UnitId) (s : State) : State :=
  let x := s.units[u].stage.getD .high
  armConfirm u .startConfirm
    (moveUnit u .starting (some x)
      (setRecord u (fun r => { r with startCount := countUp 65535 r.startCount }) (issueOrder u (.start x) s)))

/-- A confirmed start or raise of the allowance's holder takes the allowance to SPACING and arms the spacing
timer; a start spacing of 0 takes it to FREE as the timer is armed (R95, R96). -/
def confirmHolder (u : UnitId) (s : State) : State :=
  match s.engine.allowance with
  | .held v _ =>
    if v = u then
      { s with
        engine :=
          { s.engine with
            allowance := if s.store.station.startSpacing = 0 then .free else .spacing
            spacingTimer := armed s.store.station.startSpacing } }
    else s
  | _ => s

/-! ## Loss of an enrolment (R67) -/

/-- The order queue less a unit's orders; one on the line completes, but is the unit's no more (R67, log
entry 16). -/
def dropOrders (u : UnitId) (l : List OrderEntry) : List OrderEntry :=
  l.filterMap fun e => if holdsSlot u e then (if e.sending then some { e with dropped := true } else none) else some e

/-- A unit loses its enrolment (R67): its record, its runtime state, its orders and its poll; the loss is a
trigger. DEDUCED (log entry 6): the holder's allowance going FREE with it is a trigger of its own, as in
`unitEvent`, since R100 names both. -/
def loseEnrolment (u : UnitId) (s : State) : State :=
  let st : UnitState := if s.store.units[u].inService then .vacant else .outOfService
  let s1 := setRecord u (fun r => { r with enrolled := false, identity := none }) (moveUnit u st none s)
  let ring := removeDue (.unit u) s1.ring
  triggerIf (decide (s.engine.allowance ≠ .free ∧ s1.engine.allowance = .free))
    (trigger (setUnit u (fun _ => UnitRt.fresh st)
      { s1 with
        ring :=
          { ring with
            orders := dropOrders u ring.orders
            polls := ring.polls.map fun e => if e.target = .unit u then { e with live := false } else e } }))

end Sys2Proof.Machine
end

