-- ==== Sys2Proof/Machine/Units.lean ====
section
/-! DEFINITION. The Unit Controller: drive reports (R70 to R74, R78 to R84, R88), unit polling (R68, R69),
the unit timers' expiries (R76, R78 to R81, R89), enrolment (R62 to R66), and the effects of TRIP CLEAR,
UNIT SERVICE and unit record writes (R61, R90, R91). -/

namespace Sys2Proof.Machine

open Sys2Proof

/-! ## Answers to orders (R88) -/

/-- A DECLINED answer acts when the unit is still in the state the declined order produced (R88); a
RESTAGE HIGH produced RAISING and a RESTAGE LOW LOWERING (log entry 17). -/
def declined (u : UnitId) (o : Order) (s : State) : State :=
  match o, s.units[u].state with
  | .start _, .starting => goResting u s
  | .restage .high, .raising => moveUnit u .running (some .low) s
  | .restage .low, .lowering => moveUnit u .running (some .high) s
  | .stop, .stopping => declareFailure u .stopFailed s
  | .halt, .stopping => tripUnit u .stopFailed s
  | _, _ => s

/-- A report answers the order in flight (R87, R88): the order ends, a decline acts, and the pending order
is released. -/
def answerOrder (u : UnitId) (outcome : OrderOutcome) (s : State) : State :=
  match s.units[u].inFlight with
  | some fl =>
    let s1 := setUnit u (fun r => { r with inFlight := none }) s
    releasePending u (if outcome = .declined then declined u fl.order s1 else s1)
  | none => s

/-! ## The state rules of a report (R71 to R84) -/

/-- The trip rule (R71). -/
def tripRule (u : UnitId) (code : Nat) (s : State) : State :=
  match s.units[u].state, s.units[u].trip with
  | .outOfService, _ => s
  | .tripped, some (.driveTrip _) => setUnit u (fun r => { r with trip := some (.driveTrip code) }) s
  | .tripped, _ => s
  | _, _ => tripUnit u (.driveTrip code) s

/-- The local rule (R72). -/
def localRule (u : UnitId) (m : Motion) (s : State) : State :=
  match s.units[u].state with
  | .outOfService => s
  | .localControl => moveUnit u .localControl m.stage s
  | _ => leaveService u .localControl m.stage s

/-- A unit found running is adopted: RUNNING at the reported stage, its minimum run elapsed (R73). -/
def adopt (u : UnitId) (x : Stage) (s : State) : State :=
  setUnit u (fun r => { r with minRun := .elapsed }) (moveUnit u .running (some x) s)

/-- The settled-report rule of a unit in UNKNOWN (R73). -/
def settle (u : UnitId) (m : Motion) (s : State) : State :=
  match m, m.stage with
  | .stopped, _ => goResting u s
  | _, some x => if s.station.mode = .setup then stopUnit .stop u s else adopt u x s
  | _, none => s

/-- A drive moving without the controller's order: the unit becomes UNKNOWN and the settled-report rule is
applied to the same report (R74). -/
def unorderedMove (u : UnitId) (m : Motion) (s : State) : State :=
  if m = .stopped then s else settle u m (moveUnit u .unknown none s)

/-- A confirmed start (R78, R118). -/
def startConfirmed (u : UnitId) (x : Stage) (s : State) : State :=
  armMinRun u (moveUnit u .running (some x) (confirmHolder u s))

/-- A confirmed raise (R80, R118). -/
def raiseConfirmed (u : UnitId) (s : State) : State := moveUnit u .running (some .high) (confirmHolder u s)

/-- The rule of a unit's state for the motion reported, trip code 0 and control place REMOTE (R73, R74, R78
to R82). -/
def motionRule (u : UnitId) (m : Motion) (s : State) : State :=
  match s.units[u].state with
  | .unknown => settle u m s
  | .resting => unorderedMove u m s
  | .ready => unorderedMove u m s
  | .confirming => unorderedMove u m s
  | .warning => unorderedMove u m s
  | .starting =>
    match m.stage with
    | some x => startConfirmed u x s
    | none => s
  | .running =>
    if m = .stopped then goResting u s
    else
      match m.stage with
      | some x => if s.units[u].stage = some x then s else moveUnit u .running (some x) s
      | none => s
  | .raising => if m = .stopped then goResting u s else if m = .runHigh then raiseConfirmed u s else s
  | .lowering =>
    if m = .stopped then goResting u s else if m = .runLow then moveUnit u .running (some .low) s else s
  | .stopping => if m = .stopped then goResting u s else s
  | .localControl => settle u m (moveUnit u .unknown none s)
  | .vacant => s
  | .outOfService => s
  | .tripped => s
  | .missing => s

/-- A report returns a MISSING unit through UNKNOWN (R83). -/
def returnMissing (u : UnitId) (s : State) : State :=
  if s.units[u].state = .missing then moveUnit u .unknown none s else s

/-- Step 4 of R70: the trip rule, then the local rule, then the rule of the unit's state. -/
def stateRules (u : UnitId) (r : Report) (s : State) : State :=
  let s1 := returnMissing u s
  if r.trip ≠ 0 then tripRule u r.trip s1
  else if r.place = .panel then localRule u r.motion s1
  else motionRule u r.motion s1

/-- Steps 1 to 3 of R70: the last report and the miss count, the standby wake test (R153), and the answer
to an order or to a poll. -/
def takeAnswer (u : UnitId) (r : Report) (s : State) : State :=
  let s1 := setUnit u (fun x => { x with lastReport := some r, miss := 0 }) s
  let s2 := if r.motion.stage.isSome then standbyExit s1 else s1
  if r.outcome = .none then setUnit u (fun x => { x with pollTimer := none }) s2 else answerOrder u r.outcome s2

/-- A drive report is taken (R70); one from an OUT OF SERVICE unit stops after step 3 (R84). -/
def takeReport (u : UnitId) (r : Report) (s : State) : State :=
  let s1 := takeAnswer u r s
  if s1.units[u].state = .outOfService then s1 else stateRules u r s1

/-- The enrolled unit whose drive address an octet is (R162). -/
def enrolledAt (s : State) (a : Octet) : Option UnitId :=
  match driveUnit a with
  | some u => if s.store.units[u].enrolled then some u else none
  | none => none

/-- UNIT_REPORT (R70): one from no enrolled unit's drive is discarded (R162), and so is a malformed one. -/
def execUnitReport (src : Octet) (payload : List Octet) (s : State) : Host.Outcome State Fault Refusal :=
  whenReady s fun s =>
    let s0 := takeDelivered
      (fun t => decide (t.kind = kindUnitReport) && decide (t.src = src) && decide (t.payload = payload)) s
    match enrolledAt s src, unitReportOf payload with
    | some u, some r => unitEvent u (takeReport u r) s0
    | _, _ => s0

/-! ## Unit polling (R68, R69) -/

/-- The interval the unit poll timer runs with (R68). -/
def unitInterval (s : State) : Nat :=
  if s.station.standby then s.store.station.standbyPollInterval else s.store.station.unitPollInterval

/-- Whether a unit's poll has left the due list: in the poll queue, or transmitted and timed (R68). -/
def unitPollOut (s : State) (u : UnitId) : Bool :=
  (s.ring.polls.any fun e => decide (e.target = .unit u) && e.live) || s.units[u].pollTimer.isSome

/-- A unit poll entry for unit `u`, unless the unit has a poll; one still in the due list is a skipped poll
(R68). -/
def placeUnitPoll (u : UnitId) (s : State) : State :=
  if s.store.units[u].enrolled then
    if s.ring.unitDue.contains u then bump Counters.upSkippedPolls s
    else if unitPollOut s u then s
    else { s with ring := { s.ring with unitDue := s.ring.unitDue ++ [u] } }
  else s

/-- Unit poll entries for every enrolled unit in number order (R68, R92). -/
def placeUnitRound (s : State) : State := allUnits.foldl (fun s u => placeUnitPoll u s) s

/-- The unit poll timer runs out (R68). -/
def unitPollExpiry (s : State) : State :=
  if s.pollTimers.unit.isSome then
    fillPolls (placeUnitRound { s with pollTimers := { s.pollTimers with unit := some (unitInterval s) } })
  else s

/-- UNIT_POLL_TIMER_EXPIRY (R68). -/
def execUnitPollTimerExpiry (s : State) : Host.Outcome State Fault Refusal := whenReady s unitPollExpiry

/-- A unit poll's reply timer runs out (R69): the miss is counted, and at 3 or more the unit goes MISSING. -/
def unitPollMissed (u : UnitId) (s : State) : State :=
  let s1 := setUnit u (fun r => { r with pollTimer := none, miss := countUp 255 r.miss }) s
  if 3 ≤ s1.units[u].miss && mayGoMissing s1.units[u].state then goMissing u s1 else s1

/-- UNIT_POLL_TIMEOUT (R69, R83). -/
def execUnitPollTimeout (unit : Nat) (s : State) : Host.Outcome State Fault Refusal :=
  onUnit unit s fun u s => if s.units[u].pollTimer.isSome then unitEvent u (unitPollMissed u) s else s

/-! ## Order and confirm timers -/

/-- An order's reply timer runs out (R89): the pending order is released, then the unit goes MISSING. A released
START, RESTAGE or STOP of a unit that goes MISSING is withdrawn before it is transmitted, so a HALT alone is
deposited there. -/
def orderUnanswered (u : UnitId) (s : State) : State :=
  let s1 := setUnit u (fun r => { r with inFlight := none }) s
  if mayGoMissing s.units[u].state then
    goMissing u (if s.units[u].pendingOrder = some .halt then releasePending u s1 else s1)
  else releasePending u s1

/-- ORDER_REPLY_TIMEOUT (R89). -/
def execOrderReplyTimeout (unit : Nat) (s : State) : Host.Outcome State Fault Refusal :=
  onUnit unit s fun u s => if s.units[u].inFlight.isSome then unitEvent u (orderUnanswered u) s else s

/-- Whether a unit's confirm timer runs in a state. -/
def confirmRuns (s : State) (u : UnitId) (st : UnitState) : Bool :=
  decide (s.units[u].state = st) && s.units[u].confirmTimer.isSome

/-- START_CONFIRM_EXPIRY (R78). -/
def execStartConfirmExpiry (unit : Nat) (s : State) : Host.Outcome State Fault Refusal :=
  onUnit unit s fun u s =>
    if confirmRuns s u .starting then unitEvent u (declareFailure u .startFailed) s else s

/-- RESTAGE_CONFIRM_EXPIRY (R80). -/
def execRestageConfirmExpiry (unit : Nat) (s : State) : Host.Outcome State Fault Refusal :=
  onUnit unit s fun u s =>
    if confirmRuns s u .raising then unitEvent u (declareFailure u .raiseFailed) s
    else if confirmRuns s u .lowering then unitEvent u (declareFailure u .lowerFailed) s
    else s

/-- STOP_CONFIRM_EXPIRY (R81). -/
def execStopConfirmExpiry (unit : Nat) (s : State) : Host.Outcome State Fault Refusal :=
  onUnit unit s fun u s =>
    if confirmRuns s u .stopping then unitEvent u (declareFailure u .stopFailed) s else s

/-- REST_TIMER_EXPIRY (R76): the unit goes READY, which is a trigger. -/
def execRestTimerExpiry (unit : Nat) (s : State) : Host.Outcome State Fault Refusal :=
  onUnit unit s fun u s =>
    if s.units[u].restTimer.isSome then trigger (moveUnit u .ready none s) else s

/-- Whether a minimum run timer runs. -/
def MinRun.isRunning : MinRun → Bool
  | .running _ => true
  | _ => false

/-- MINIMUM_RUN_EXPIRY (R79): the timer is set elapsed, which is a trigger. -/
def execMinimumRunExpiry (unit : Nat) (s : State) : Host.Outcome State Fault Refusal :=
  onUnit unit s fun u s =>
    if s.units[u].minRun.isRunning then trigger (setUnit u (fun r => { r with minRun := .elapsed }) s) else s

/-! ## Enrolment (R62 to R66) -/

/-- The enrolment timer's duration in seconds (R63). -/
def enrolSeconds : Nat := 2

/-- An offer for unit `u` is deposited (R63). -/
def placeOffer (u : UnitId) (s : State) : State :=
  depositOrder (.offer u) { s with enrol := ⟨.offering, some u, none⟩ }

/-- Enrolment ends (R65): IDLE, and ENROLMENT DONE. The offered unit stays (R63). -/
def endEnrolment (s : State) : State :=
  raiseCondition .enrolmentDone { s with enrol := ⟨.idle, s.enrol.offered, none⟩ }

/-- The lowest-numbered VACANT unit (R62). -/
def lowestVacant (s : State) : Option UnitId := allUnits.find? fun u => decide (s.units[u].state = .vacant)

/-- The next offer, or the end of enrolment when no unit is VACANT (R62 to R64). -/
def nextOffer (s : State) : State :=
  match lowestVacant s with
  | some u => placeOffer u s
  | none => endEnrolment s

/-- Whether an order queue entry is an ENROL OFFER. -/
def isOffer (e : OrderEntry) : Bool :=
  match e.item with
  | .offer _ => true
  | _ => false

/-- An offer for unit `u` still in the order queue is withdrawn; one on the line completes (R63, R64). -/
def withdrawOffer (u : UnitId) (s : State) : State :=
  { s with ring := { s.ring with orders := s.ring.orders.filter fun e => !(decide (e.item = .offer u) && !e.sending) } }

/-- Whether an enrolment is under way (R62). -/
def enrolling (s : State) : Bool := decide (s.enrol.state ≠ .idle)

/-- The offered unit becomes none; an enrolment under way stops its timer and goes on with the next offer (R63,
R64). -/
def leaveOffer (s : State) : State :=
  if enrolling s then nextOffer { s with enrol := { s.enrol with offered := none, timer := none } }
  else { s with enrol := { s.enrol with offered := none } }

/-- The other enrolled unit that holds an identity (R64). -/
def holderOf (s : State) (u : UnitId) (id : Identity) : Option UnitId :=
  allUnits.find? fun k => decide (k ≠ u) && s.store.units[k].enrolled && decide (s.store.units[k].identity = some id)

/-- Unit `u` is enrolled with an identity (R64, R39). Its offer still in the order queue is withdrawn, whether or not
an enrolment is under way (R64); the drive's identity that another unit held is taken from that unit first. -/
def enrolUnit (u : UnitId) (id : Identity) (s : State) : State :=
  let s1 :=
    match holderOf s u id with
    | some k => loseEnrolment k s
    | none => s
  let s2 := reformUnit u (setUnit u (fun _ => UnitRt.fresh .unknown)
    (setRecord u (fun r => { r with enrolled := true, identity := some id }) s1))
  let s3 := leaveOffer (withdrawOffer u s2)
  trigger (fillPolls { s3 with ring := { s3.ring with unitDue := s3.ring.unitDue ++ [u] } })

/-- ENROL_TAKE (R64): taken from the offered unit's drive address, with a payload of 4 octets (10.2), while
the unit is VACANT; discarded otherwise. -/
def execEnrolTake (src : Octet) (payload : List Octet) (s : State) : Host.Outcome State Fault Refusal :=
  whenReady s fun s =>
    let s0 := takeDelivered
      (fun t => decide (t.kind = kindEnrolTake) && decide (t.src = src) && decide (t.payload = payload)) s
    match s.enrol.offered with
    | some u =>
      if src = driveAddress u && payload.length = 4 && s.units[u].state = .vacant then
        enrolUnit u (BitVec.ofNat 32 (natOf payload)) s0
      else s0
    | none => s0

/-- ENROL_OFFER_RETURN (R65): the returning offer ends an enrolment under way. -/
def execEnrolOfferReturn (s : State) : Host.Outcome State Fault Refusal :=
  whenReady s fun s =>
    let s0 := takeDelivered (fun t => decide (t.kind = kindEnrolOffer)) s
    if enrolling s then endEnrolment s0 else s0

/-- ENROLMENT_TIMER_EXPIRY (R65). -/
def execEnrolmentTimerExpiry (s : State) : Host.Outcome State Fault Refusal :=
  whenReady s fun s => if s.enrol.timer.isSome then endEnrolment s else s

/-- Every offer still in the order queue is withdrawn; one on the line completes (R65). -/
def withdrawOffers (s : State) : State :=
  { s with ring := { s.ring with orders := s.ring.orders.filter fun e => !(isOffer e && !e.sending) } }

/-- The station mode leaves SETUP (R65): an enrolment under way ends, every offer still in the order queue
withdrawn. -/
def enrolmentLeavesSetup (s : State) : State := if enrolling s then endEnrolment (withdrawOffers s) else s

/-- Every enrolled unit loses its enrolment, the offered unit becomes none, and an ENROL RELEASE is
broadcast (R66). -/
def releaseEnrolments (s : State) : State :=
  let s1 := allUnits.foldl (fun t u => if s.store.units[u].enrolled then loseEnrolment u t else t) s
  depositOrder .release { s1 with enrol := { s1.enrol with offered := none } }

/-- ENROL RELEASE is refused with BUSY during an enrolment and while any unit is STOPPING or holds an order
(R66). -/
def releaseBusy (s : State) : Bool :=
  enrolling s || allUnits.any fun u => decide (s.units[u].state = .stopping) || !ordersFree s u

/-! ## TRIP CLEAR, UNIT SERVICE and unit record writes -/

/-- TRIP CLEAR is accepted when the unit is TRIPPED and its last report shows trip code 0 (R90). -/
def mayClearTrip (s : State) (u : UnitId) : Bool :=
  decide (s.units[u].state = .tripped) && ((s.units[u].lastReport.map fun r => decide (r.trip = 0)).getD false)

/-- The states from which a unit may be taken out of service, OUT OF SERVICE itself among them (R91). -/
def mayLeaveService : UnitState → Bool
  | .resting => true
  | .ready => true
  | .tripped => true
  | .unknown => true
  | .missing => true
  | .vacant => true
  | .outOfService => true
  | _ => false

/-- Unit `u` is taken out of service (R91); an offered unit that leaves VACANT so is no longer offered, and while an
enrolment is under way its offer still in the order queue is withdrawn (R63). -/
def serviceOut (u : UnitId) (s : State) : State :=
  if s.units[u].state = .outOfService then s
  else
    let s1 := withdrawOrders u (moveUnit u .outOfService none (setRecord u (fun r => { r with inService := false }) s))
    if s.units[u].state = .vacant && s.enrol.offered = some u then
      leaveOffer (if enrolling s then withdrawOffer u s1 else s1)
    else s1

/-- Unit `u` is put back in service (R91). -/
def serviceIn (u : UnitId) (s : State) : State :=
  if s.units[u].state = .outOfService then
    let s1 := setRecord u (fun r => { r with inService := true }) s
    if s.store.units[u].enrolled then goResting u s1 else moveUnit u .vacant none s1
  else s

/-- The values a unit record write carries and uses: type, basin and start count (R61, 10.5). -/
structure UnitWrite where
  type : Nat
  basin : Nat
  startCount : Nat
  deriving DecidableEq, Repr

/-- A unit record write from its octets (10.5). -/
def unitWriteOf (l : List Octet) : UnitWrite := ⟨numAt l 5 1, numAt l 6 1, numAt l 8 2⟩

/-- The checks of R61 after the record number, in its order. -/
def checkUnit (s : State) (u : UnitId) (w : UnitWrite) : Option Reason :=
  match typeNumbered w.type, basinNumbered w.basin with
  | some t, some b =>
    if 65535 < w.startCount then some .range
    else if (t ≠ s.store.units[u].type || b ≠ s.store.units[u].basin) && busyState s.units[u].state then some .inUse
    else none
  | _, _ => some .range

/-- A unit record write is applied (R61, R38): type, basin and start count are replaced, the estimates of an
enrolled unit formed again, and the write is a trigger. -/
def applyUnit (u : UnitId) (w : UnitWrite) (s : State) : State :=
  match typeNumbered w.type, basinNumbered w.basin with
  | some t, some b =>
    trigger (reformUnit u (setRecord u (fun r => { r with type := t, basin := b, startCount := w.startCount }) s))
  | _, _ => s

end Sys2Proof.Machine
end

