-- ==== Sys2Proof/Machine/Engine.lean ====
section
/-! DEFINITION. The Dispatch Engine: the committed totals (R98, R99), the admission tests (R102), the
candidate's re-check and abandonment (R104, R116), the seven stages of an evaluation (R103 to R112, R151),
the start path (R113 to R117), the timers of dispatch and of the horn (R96, R148, R150), and the effects of
manual orders within dispatch (R119, R120, R145, R146). -/

namespace Sys2Proof.Machine

open Sys2Proof

/-! ## The committed totals (R98, R99) -/

/-- The basin a unit drains (R60). -/
def basinOfUnit (s : State) (u : UnitId) : BasinId := s.store.units[u].basin

/-- The start power of a unit's type (R98). -/
def startPowerOf (s : State) (u : UnitId) : Nat := (typeRecOf s u).startPower

/-- Whether a unit is counted at all: enrolled, and not of status NO TYPE (R98, R36). -/
def counted (s : State) (u : UnitId) : Bool :=
  s.store.units[u].enrolled && decide (estStatus s u ≠ some .noType)

/-- A quantity at the unit's stage, 0 where it has none (R98). -/
def atStage (x : Option Stage) (f : Stage → Nat) : Nat :=
  match x with
  | some x => f x
  | none => 0

/-- The power counted for a unit (R98). -/
def powerCounted (s : State) (u : UnitId) : Nat :=
  if counted s u then
    match s.units[u].state with
    | .confirming => startPowerOf s u
    | .warning => startPowerOf s u
    | .starting => startPowerOf s u
    | .running => atStage s.units[u].stage (pAt s u)
    | .raising => startPowerOf s u
    | .lowering => pAt s u .low
    | .localControl => atStage s.units[u].stage (pAt s u)
    | .missing => atStage s.units[u].stage (pAt s u)
    | .stopping => 0
    | .resting => 0
    | .ready => 0
    | .tripped => 0
    | .unknown => 0
    | .outOfService => 0
    | .vacant => 0
  else 0

/-- The discharge counted for a unit (R98). -/
def dischargeCounted (s : State) (u : UnitId) : Nat :=
  if counted s u then
    match s.units[u].state with
    | .confirming => 0
    | .warning => 0
    | .starting => atStage s.units[u].stage (qAt s u)
    | .running => atStage s.units[u].stage (qAt s u)
    | .raising => qAt s u .high
    | .lowering => qAt s u .low
    | .localControl => atStage s.units[u].stage (qAt s u)
    | .missing => atStage s.units[u].stage (qAt s u)
    | .stopping => 0
    | .resting => 0
    | .ready => 0
    | .tripped => 0
    | .unknown => 0
    | .outOfService => 0
    | .vacant => 0
  else 0

/-- The sum of a quantity over the units that a test picks. -/
def sumUnits (p : UnitId → Bool) (f : UnitId → Nat) : Nat := ((allUnits.filter p).map f).sum

/-- P_c, the committed power (R99). -/
def committedPower (s : State) : Nat := sumUnits (fun _ => true) (powerCounted s)

/-- D_b, the committed delivery of a basin (R99). -/
def committedDelivery (s : State) (b : BasinId) : Nat :=
  sumUnits (fun u => decide (basinOfUnit s u = b)) (dischargeCounted s)

/-- Whether a basin's discharge counts against the permit: in use and not in override (R99). -/
def permitCounted (s : State) (b : BasinId) : Bool := s.store.basins[b].inUse && !s.basins[b].override

/-- Q_p, the permit-counted discharge (R99). -/
def permitDischarge (s : State) : Nat := sumUnits (fun u => permitCounted s (basinOfUnit s u)) (dischargeCounted s)

/-! ## Admission and re-check (R102, R104) -/

/-- The permit test of R102 for discharge `add` brought in for a unit's basin and `less` given up. -/
def permitTest (s : State) (b : BasinId) (add less : Nat) : Bool :=
  if s.basins[b].override then decide (committedDelivery s b + add ≤ s.store.basins[b].emergency + less)
  else decide (permitDischarge s + add ≤ s.limits.cap + less)

/-- The three tests of R102 for a start of a unit that is not yet the candidate. -/
def startAdmitted (s : State) (u : UnitId) (x : Stage) : Bool :=
  decide (0 < qAt s u x) && decide (committedPower s + startPowerOf s u ≤ s.limits.budget)
  && permitTest s (basinOfUnit s u) (qAt s u x) 0

/-- The three tests of R102 for a raise from LOW to HIGH. -/
def raiseAdmitted (s : State) (u : UnitId) : Bool :=
  decide (0 < qAt s u .high)
  && decide (committedPower s + startPowerOf s u ≤ s.limits.budget + pAt s u .low)
  && permitTest s (basinOfUnit s u) (qAt s u .high) (qAt s u .low)

/-- A basin is in deficit while D_b is below T_b (R104, R109). -/
def inDeficit (s : State) (b : BasinId) : Bool := decide (committedDelivery s b < s.basins[b].target)

/-- The re-check of the candidate (R104): it is kept when every test passes; the deficit test is made in
AUTO alone. P_c counts the candidate at its start power already. -/
def recheck (s : State) (c : Candidate) : Bool :=
  let b := basinOfUnit s c.unit
  (decide (s.station.mode ≠ .auto) || inDeficit s b)
  && !s.basins[b].dry
  && decide (0 < qAt s c.unit c.stage)
  && decide (committedPower s ≤ s.limits.budget)
  && permitTest s b (qAt s c.unit c.stage) 0

/-- The abandon request of R77 for unit `u` in CONFIRMING or WARNING (R116): the unit goes READY, and with
the candidacy go the allowance, the confirmation list and any warning period. -/
def abandonUnit (u : UnitId) (s : State) : State := moveUnit u .ready none s

/-- Whether the abandon request's presumed state holds (R77). -/
def mayAbandon (s : State) (u : UnitId) : Bool := candidateState s.units[u].state

/-- The candidate is abandoned (R116). -/
def abandon (s : State) : State :=
  match s.engine.candidate with
  | some c => if mayAbandon s c.unit then abandonUnit c.unit s else s
  | none => s

/-! ## Requests of an evaluation (R101) -/

/-- An evaluation under way: the station as its requests have left it, and the units whose request lapsed,
which are passed over for the rest of the evaluation (R101). -/
structure Pass where
  st : State
  lapsed : List UnitId

/-- A STOP request (R81). -/
def askStop (u : UnitId) (p : Pass) : Pass :=
  if mayStop p.st u then { p with st := stopUnit .stop u p.st } else { p with lapsed := u :: p.lapsed }

/-- A RESTAGE LOW request (R80). -/
def askLower (u : UnitId) (p : Pass) : Pass :=
  if mayRestage p.st u .low then { p with st := restageUnit u .low p.st } else { p with lapsed := u :: p.lapsed }

/-- An abandon request (R77). -/
def askAbandon (u : UnitId) (p : Pass) : Pass :=
  if mayAbandon p.st u then { p with st := abandonUnit u p.st } else { p with lapsed := u :: p.lapsed }

/-- The highest entry of the stack that a test picks and that is not passed over (R105, R106, R94). -/
def topmost (test : UnitId → Bool) (p : Pass) : Option UnitId :=
  p.st.engine.stack.reverse.find? fun u => !p.lapsed.contains u && test u

/-- The candidate, unless its request has lapsed in this evaluation. -/
def candidateOf (p : Pass) : Option Candidate := p.st.engine.candidate.filter fun c => !p.lapsed.contains c.unit

/-! ## Stage 1: protective stops (R103) -/

/-- Whether a unit is stopped for protection (R103). -/
def mustStop (s : State) (u : UnitId) : Bool :=
  mayStop s u
  && (s.basins[basinOfUnit s u].dry
      || (decide (s.units[u].state = .running) && ((s.units[u].stage.map (beyondAt s u)).getD false))
      || decide (estStatus s u = some .noType) || decide (estStatus s u = some .noBasin))

/-- Stage 1 (R103), in unit-number order. -/
def protectiveStops (p : Pass) : Pass :=
  allUnits.foldl (fun p u => if mustStop p.st u && !p.lapsed.contains u then askStop u p else p) p

/-! ## Stage 2: candidate re-check (R104) -/

/-- Stage 2 (R104). -/
def candidateRecheck (p : Pass) : Pass :=
  match candidateOf p with
  | some c => if recheck p.st c then p else askAbandon c.unit p
  | none => p

/-! ## Stages 3 and 4: shedding (R105 to R107) -/

/-- A RUNNING HIGH unit of a two-stage type whose q at LOW is above 0 is turned down, any other stopped
(R105, steps 3 and 4). -/
def turnsDown (s : State) (u : UnitId) : Bool :=
  decide (s.units[u].state = .running) && decide (s.units[u].stage = some .high)
  && decide ((typeRecOf s u).stageCount = 2) && decide (0 < qAt s u .low)

/-- One unit is shed (R105, steps 3 and 4). -/
def shed (u : UnitId) (p : Pass) : Pass := if turnsDown p.st u then askLower u p else askStop u p

/-- More steps than shedding can take: one for the candidate, and for each unit a downstage, a stop and a
lapse at the most. -/
def shedSteps : Nat := 40

/-- Stage 3 (R105), at most `fuel` steps. -/
def budgetShedding : Nat → Pass → Pass
  | 0, p => p
  | fuel + 1, p =>
    if committedPower p.st ≤ p.st.limits.budget then p
    else
      match candidateOf p with
      | some c => budgetShedding fuel (askAbandon c.unit p)
      | none =>
        match topmost (fun _ => true) p with
        | some u => budgetShedding fuel (shed u p)
        | none => p

/-- Stage 4 (R106), at most `fuel` steps. -/
def permitShedding : Nat → Pass → Pass
  | 0, p => p
  | fuel + 1, p =>
    if permitDischarge p.st ≤ p.st.limits.cap then p
    else
      match topmost (fun u => !p.st.basins[basinOfUnit p.st u].override) p with
      | some u => permitShedding fuel (shed u p)
      | none => p

/-- The budget-unmet flag is set or cleared, and its change reported (R107). -/
def setBudgetUnmet (s : State) : State :=
  let b := decide (s.limits.budget < committedPower s)
  if b = s.engine.budgetUnmet then s
  else reportCondition .budgetUnmet b { s with engine := { s.engine with budgetUnmet := b } }

/-- The permit-unmet flag is set or cleared, and its change reported (R107). -/
def setPermitUnmet (s : State) : State :=
  let b := decide (s.limits.cap < permitDischarge s)
  if b = s.engine.permitUnmet then s
  else reportCondition .permitUnmet b { s with engine := { s.engine with permitUnmet := b } }

/-- Stage 3 with its flag (R105, R107). -/
def budgetStage (p : Pass) : Pass :=
  let p := budgetShedding shedSteps p
  { p with st := setBudgetUnmet p.st }

/-- Stage 4 with its flag (R106, R107). -/
def permitStage (p : Pass) : Pass :=
  let p := permitShedding shedSteps p
  { p with st := setPermitUnmet p.st }

/-! ## Stage 5: surplus (R108) -/

/-- A RUNNING unit whose minimum run timer is elapsed (R108). -/
def past (s : State) (u : UnitId) : Bool :=
  decide (s.units[u].state = .running) && decide (s.units[u].minRun = .elapsed)

/-- The surplus stops of a basin whose target is 0 (R108), in unit-number order (log entry 25). -/
def stopAll (b : BasinId) (p : Pass) : Pass :=
  allUnits.foldl
    (fun p u => if decide (basinOfUnit p.st u = b) && past p.st u && !p.lapsed.contains u then askStop u p else p) p

/-- The surplus test of a basin whose target is above 0, on its topmost unit (R108). -/
def turnDownOne (b : BasinId) (p : Pass) : Pass :=
  match topmost (fun u => decide (basinOfUnit p.st u = b)) p with
  | none => p
  | some u =>
    let s := p.st
    let d := committedDelivery s b
    let t := s.basins[b].target
    if past s u then
      if turnsDown s u && decide (t + qAt s u .high ≤ d + qAt s u .low) then askLower u p
      else if t + atStage s.units[u].stage (qAt s u) ≤ d then askStop u p
      else p
    else p

/-- Surplus of one basin (R108). -/
def surplusOf (b : BasinId) (p : Pass) : Pass :=
  if p.st.store.basins[b].inUse && decide (p.st.basins[b].status ≠ .unseen) then
    if p.st.basins[b].target = 0 then stopAll b p else turnDownOne b p
  else p

/-- Stage 5 (R108): the basins in number order. -/
def surplus (p : Pass) : Pass := allBasins.foldl (fun p b => surplusOf b p) p

/-! ## Stage 6: deficit (R109 to R111, R113) -/

/-- The level statuses under which a basin's deficit is met (R109). -/
def seen : LevelStatus → Bool
  | .voted => true
  | .held => true
  | .blind => true
  | _ => false

/-- The basins in use and in deficit in rank order: override first, then priority, then number (R109). -/
def ranked (s : State) : List BasinId :=
  [true, false].flatMap fun o =>
    [1, 2, 3, 4].flatMap fun k =>
      allBasins.filter fun b =>
        s.store.basins[b].inUse && inDeficit s b && seen s.basins[b].status
        && decide (s.basins[b].override = o) && decide (s.store.basins[b].priority = k)

/-- The raise option of a basin: its lowest-numbered RUNNING LOW unit of a two-stage type with no order
(R110). -/
def raiseOption (s : State) (b : BasinId) : Option UnitId :=
  allUnits.find? fun u =>
    decide (basinOfUnit s u = b) && decide (s.units[u].state = .running) && decide (s.units[u].stage = some .low)
    && twoStage (typeRecOf s u) && ordersFree s u

/-- Whether a raise option is feasible (R110). -/
def raiseFeasible (s : State) (u : UnitId) : Bool := raiseAdmitted s u && decide (qAt s u .low < qAt s u .high)

/-- A unit with a key put in its place among units of lower or equal key and number. -/
def insertByCount (key : UnitId → Nat) (u : UnitId) : List UnitId → List UnitId
  | [] => [u]
  | v :: l => if key u < key v then u :: v :: l else v :: insertByCount key u l

/-- Units by key ascending, those of equal key in the order given (R111). -/
def sortByCount (key : UnitId → Nat) (l : List UnitId) : List UnitId :=
  l.foldl (fun a u => insertByCount key u a) []

/-- Whether a unit may be considered for a start (R111, R119). -/
def mayBegin (s : State) (u : UnitId) : Bool :=
  decide (s.units[u].state = .ready) && s.store.units[u].inService && (typeRecOf s u).inUse && ordersFree s u

/-- The units a basin may start, by start count, then by number (R111). -/
def startUnits (s : State) (b : BasinId) : List UnitId :=
  sortByCount (fun u => s.store.units[u].startCount)
    (allUnits.filter fun u => decide (basinOfUnit s u = b) && mayBegin s u)

/-- The first feasible stage of a unit: HIGH, then LOW if its type has it (R111). -/
def startStage (s : State) (u : UnitId) : Option Stage :=
  if startAdmitted s u .high then some .high
  else if decide ((typeRecOf s u).stageCount = 2) && startAdmitted s u .low then some .low
  else none

/-- The start option of a basin: the first unit with a feasible stage, and that stage (R111). -/
def startOption (s : State) (b : BasinId) : Option (UnitId × Stage) :=
  (startUnits s b).findSome? fun u => (startStage s u).map fun x => (u, x)

/-- The allowance is taken for a unit (R95). -/
def holdAllowance (u : UnitId) (p : Purpose) (s : State) : State :=
  { s with engine := { s.engine with allowance := .held u p } }

/-- A RESTAGE HIGH is applied: the unit goes RAISING and holds the allowance (R95, R110). -/
def raiseUnit (u : UnitId) (s : State) : State := restageUnit u .high (holdAllowance u .raise s)

/-- A unit becomes the candidate at a stage (R113): CONFIRMING, the allowance held, and the gauges that the
Level Voter answers with as the confirmation list. -/
def enterCandidate (u : UnitId) (x : Stage) (s : State) : State :=
  let b := basinOfUnit s u
  let s1 := holdAllowance u .start s
  let s2 := { s1 with engine := { s1.engine with candidate := some ⟨u, x, confirmationGauges s b⟩ } }
  confirmLevels b (moveUnit u .confirming (some x) s2)

/-- The first feasible option of a basin, taken: the raise option, else the start option (R109). -/
def takeOption (s : State) (b : BasinId) : Option State :=
  match (raiseOption s b).filter (raiseFeasible s) with
  | some u => some (raiseUnit u s)
  | none => (startOption s b).map fun c => enterCandidate c.1 c.2 s

/-- Stage 6 (R109). -/
def deficit (p : Pass) : Pass :=
  if p.st.engine.candidate.isNone && decide (p.st.engine.allowance = .free) then
    match (ranked p.st).findSome? (takeOption p.st) with
    | some s => { p with st := s }
    | none => p
  else p

/-! ## Stage 7: standby check (R112, R151) -/

/-- Whether a unit's last report shows RUN LOW or RUN HIGH (R151). -/
def reportsRun (r : UnitRt) : Bool := ((r.lastReport.bind fun x => x.motion.stage).isSome)

/-- The standby entry test (R151). -/
def standbyTest (s : State) : Bool :=
  !s.station.standby && isIdle s
  && allUnits.all (fun u => !(s.store.units[u].enrolled && reportsRun s.units[u]))
  && allBasins.all (fun b =>
      !s.store.basins[b].inUse
      || (decide (s.basins[b].status = .voted) && decide (s.basins[b].step = 0) && !s.basins[b].atWake))
  && allConditions.all (fun c => !(c.wakes && isPending c s))

/-- Stage 7 (R112, R151): standby becomes ON and both poll timers are armed with the standby interval. -/
def standbyCheck (s : State) : State :=
  if standbyTest s then
    { s with
      station := { s.station with standby := true }
      pollTimers := ⟨some s.store.station.standbyPollInterval, some s.store.station.standbyPollInterval⟩ }
  else s

/-! ## The evaluation (R101) -/

/-- The stages that a station mode gives (R101). -/
def stages (s : State) : State :=
  let p := protectiveStops ⟨s, []⟩
  match s.station.mode with
  | .auto => standbyCheck (deficit (surplus (permitStage (budgetStage (candidateRecheck p))))).st
  | .manual => (permitStage (budgetStage (candidateRecheck p))).st
  | .setup => (permitStage (budgetStage p)).st

/-- EVALUATION (R100, R101): taken after a trigger, one for each (log entry 6). -/
def execEvaluation (s : State) : Host.Outcome State Fault Refusal :=
  whenReady s fun s => if s.evalDue = 0 then s else stages { s with evalDue := s.evalDue - 1 }

/-! ## The start path (R115, R117, R148) -/

/-- START is issued to the candidate if the request's presumed state holds (R117, R77). -/
def issueStart (u : UnitId) (s : State) : State := if mayStart s u then startUnit u s else s

/-- The candidate is abandoned outside an evaluation: the release of the allowance is a trigger (R115,
R120). -/
def abandonTriggering (s : State) : State := trigger (abandon s)

/-- The candidate enters WARNING and its warning period begins (R115, R148). -/
def enterWarning (u : UnitId) (s : State) : State :=
  let s1 := moveUnit u .warning s.units[u].stage s
  { s1 with
    horn := { s1.horn with line := true, warningTimer := some s1.store.station.hornWarning } }

/-- What the end of CONFIRMING does with a candidate (R115). -/
def endConfirming (c : Candidate) (s : State) : State :=
  if recheck s c then
    if s.horn.required then enterWarning c.unit s else issueStart c.unit s
  else abandonTriggering s

/-- CONFIRMING_END (R115): the candidate is CONFIRMING and its confirmation list is empty. -/
def execConfirmingEnd (s : State) : Host.Outcome State Fault Refusal :=
  whenReady s fun s =>
    match s.engine.candidate with
    | some c =>
      if s.units[c.unit].state = .confirming && c.confirm.isEmpty then endConfirming c s else s
    | none => s

/-- What the expiry of the warning period does with the candidate (R117). -/
def endWarned (s : State) : State :=
  match s.engine.candidate with
  | some c => if recheck s c then issueStart c.unit s else abandonTriggering s
  | none => s

/-- WARNING_TIMER_EXPIRY (R148, R117). -/
def execWarningTimerExpiry (s : State) : Host.Outcome State Fault Refusal :=
  whenReady s fun s =>
    if s.horn.warningTimer.isSome then
      endWarned { s with horn := { s.horn with line := false, required := false, warningTimer := none } }
    else s

/-- SPACING_TIMER_EXPIRY (R96). -/
def execSpacingTimerExpiry (s : State) : Host.Outcome State Fault Refusal :=
  whenReady s fun s =>
    if s.engine.spacingTimer.isSome then
      trigger
        { s with
          engine :=
            { s.engine with
              spacingTimer := none
              allowance := if s.engine.allowance = .spacing then .free else s.engine.allowance } }
    else s

/-- HORN_REARM_EXPIRY (R150). -/
def execHornRearmExpiry (s : State) : Host.Outcome State Fault Refusal :=
  whenReady s fun s =>
    if s.horn.rearmTimer.isSome then { s with horn := { s.horn with rearmTimer := none, required := true } } else s

/-! ## Manual orders (R119, R120, R145, R146) -/

/-- The outcome of a manual order that has passed R145: its refusal, or its effect. -/
inductive Ruled where
  | refuse (r : Reason)
  | accept (f : State → State)

/-- A manual START (R119). -/
def manualStart (u : UnitId) (x : Stage) (s : State) : Ruled :=
  if s.engine.allowance ≠ .free then .refuse .busy
  else if !mayBegin s u then .refuse .state
  else if !hasStage (typeRecOf s u) x then .refuse .range
  else if !startAdmitted s u x then .refuse .limit
  else .accept (enterCandidate u x)

/-- A manual RESTAGE HIGH (R119). -/
def manualRaise (u : UnitId) (s : State) : Ruled :=
  if s.engine.allowance ≠ .free then .refuse .busy
  else if !(decide (s.units[u].state = .running) && decide (s.units[u].stage = some .low)
      && (typeRecOf s u).inUse && ordersFree s u) then .refuse .state
  else if (typeRecOf s u).stageCount ≠ 2 then .refuse .range
  else if !raiseAdmitted s u then .refuse .limit
  else .accept (raiseUnit u)

/-- A manual STOP or HALT of the candidate abandons it (R120). -/
def manualAbandon : Ruled := .accept abandonTriggering

/-- A manual STOP (R146, R120). -/
def manualStop (u : UnitId) (s : State) : Ruled :=
  if candidateState s.units[u].state then manualAbandon
  else if mayStop s u then .accept (unitEvent u (stopUnit .stop u))
  else .refuse .state

/-- A manual HALT (R146, R120). -/
def manualHalt (u : UnitId) (s : State) : Ruled :=
  if candidateState s.units[u].state then manualAbandon
  else if mayHalt s u then .accept (unitEvent u (stopUnit .halt u))
  else .refuse .state

/-- A manual RESTAGE LOW (R146): a RUNNING HIGH unit whose type has stage count 1 is refused with RANGE. -/
def manualLower (u : UnitId) (s : State) : Ruled :=
  if decide (s.units[u].state = .running) && decide (s.units[u].stage = some .high)
      && (typeRecOf s u).inUse && decide ((typeRecOf s u).stageCount = 1) then .refuse .range
  else if mayRestage s u .low then .accept (unitEvent u (restageUnit u .low))
  else .refuse .state

/-- Check 3 of R145: the order and, for START and RESTAGE, the stage, as octets. -/
def manualOrderOf (order stage : Nat) : Option Order :=
  match order with
  | 1 => (stageOf stage).map .start
  | 2 => (stageOf stage).map .restage
  | 3 => some .stop
  | 4 => some .halt
  | _ => none

/-- A manual order routed by its order (R145). -/
def manualRouted (u : UnitId) (s : State) : Order → Ruled
  | .start x => manualStart u x s
  | .restage .high => manualRaise u s
  | .restage .low => manualLower u s
  | .stop => manualStop u s
  | .halt => manualHalt u s

end Sys2Proof.Machine
end

