-- ==== Sys2Proof/Machine/Limits.lean ====
section
/-! DEFINITION. The Limits Unit: the budget in force (R125 to R129), the permit value, the hold and the
permit cap in force (R133 to R136), and what it takes up from a station record write (R131, R136). -/

namespace Sys2Proof.Machine

open Sys2Proof

/-- B as it is formed: the smaller of the station power ceiling and the supply limit (R125). -/
def budgetOf (s : State) : Nat := min s.store.station.ceiling s.limits.supplyLimit

/-- B is formed again; a change is a trigger (R125). -/
def formBudget (s : State) : State :=
  if budgetOf s = s.limits.budget then s
  else trigger { s with limits := { s.limits with budget := budgetOf s } }

/-- C as it is formed: 0 while the hold state is ON, the permit value otherwise (R136). -/
def capOf (s : State) : Nat := if s.limits.hold then 0 else s.limits.permit

/-- C is formed again; a change is a trigger (R136). -/
def formCap (s : State) : State :=
  if capOf s = s.limits.cap then s
  else trigger { s with limits := { s.limits with cap := capOf s } }

/-- The largest supply limit in kW (R127). -/
def maxSupply : Nat := 1000000

/-- The largest permit value in L/s (R133). -/
def maxPermit : Nat := 500000

/-- A well-formed SUPPLY LIMIT of a value, in the order of R127. -/
def supplyTaken (value : Nat) (s : State) : State :=
  let was := s.limits.supplyState
  let s1 := { s with
    limits :=
      { s.limits with
        supplyLimit := min value maxSupply
        supplyState := .current
        silenceTimer := some s.store.station.silenceTime } }
  formBudget (if was = .silent then reportCondition .supplySilent false s1 else s1)

/-- A telegram of the supply or permit node leaves the delivered telegrams as it is taken. -/
def takeFrom (src kind : Octet) (payload : List Octet) (s : State) : State :=
  takeDelivered (sameTelegram kind src payload) s

/-- SUPPLY_LIMIT (R127, R128): a payload of another length than 4 octets is malformed and discarded. -/
def execSupplyLimit (payload : List Octet) (s : State) : Host.Outcome State Fault Refusal :=
  whenReady s fun s =>
    let s0 := takeFrom addrSupply kindSupplyLimit payload s
    if payload.length = 4 then supplyTaken (natOf payload) s0 else s0

/-- The supply silence timer runs out, in the order of R129. -/
def supplySilence (s : State) : State :=
  formBudget (reportCondition .supplySilent true
    { s with
      limits :=
        { s.limits with
          supplyLimit := s.store.station.fallbackBudget
          supplyState := .silent
          silenceTimer := none } })

/-- SUPPLY_SILENCE_EXPIRY (R129). -/
def execSupplySilenceExpiry (s : State) : Host.Outcome State Fault Refusal :=
  whenReady s fun s => if s.limits.silenceTimer.isSome then supplySilence s else s

/-- PERMIT_SET (R133): a payload of another length than 4 octets is malformed and discarded. -/
def execPermitSet (payload : List Octet) (s : State) : Host.Outcome State Fault Refusal :=
  whenReady s fun s =>
    let s0 := takeFrom addrPermit kindPermitSet payload s
    if payload.length = 4 then
      formCap { s0 with limits := { s0.limits with permit := min (natOf payload) maxPermit, permitSource := .permitNode } }
    else s0

/-- The hold state changes, HOLD ACTIVE with it, and C is formed again (R134, R135). -/
def setHold (b : Bool) (s : State) : State :=
  formCap (reportCondition .holdActive b { s with limits := { s.limits with hold := b } })

/-- PERMIT_HOLD (R134): one that carries a payload is malformed and discarded. -/
def execPermitHold (payload : List Octet) (s : State) : Host.Outcome State Fault Refusal :=
  whenReady s fun s =>
    let s0 := takeFrom addrPermit kindPermitHold payload s
    if payload.isEmpty && !s.limits.hold then setHold true s0 else s0

/-- PERMIT_RELEASE (R135): one that carries a payload is malformed and discarded. -/
def execPermitRelease (payload : List Octet) (s : State) : Host.Outcome State Fault Refusal :=
  whenReady s fun s =>
    let s0 := takeFrom addrPermit kindPermitRelease payload s
    if payload.isEmpty && s.limits.hold then setHold false s0 else s0

/-! ## The station record (R131, R136, R175) -/

/-- A time or value in a range. -/
def within (lo hi n : Nat) : Bool := decide (lo ≤ n) && decide (n ≤ hi)

/-- The ranges of R175; the start mode is one of the three by its type. -/
def stationInRange (r : StationRec) : Bool :=
  within 10 2000 r.replyTimeout && within 1 60 r.gaugePollInterval && within 10 600 r.standbyPollInterval
  && within 1 60 r.unitPollInterval && within 0 1000000 r.ceiling && within 0 1000000 r.fallbackBudget
  && within 5 600 r.silenceTime && within 0 500000 r.defaultPermit && within 5 120 r.hornWarning
  && within 60 7200 r.hornRearm && within 0 300 r.startSpacing && within 0 13 r.threshold

/-- The Limits Unit's values as a station record write changes them, B and C not yet formed again (R131,
R136). -/
def limitsRewritten (old new : StationRec) (l : Limits) : Limits :=
  { l with
    supplyLimit :=
      if new.fallbackBudget ≠ old.fallbackBudget ∧ l.supplyState ≠ .current then new.fallbackBudget else l.supplyLimit
    permit :=
      if new.defaultPermit ≠ old.defaultPermit ∧ l.permitSource = .default then new.defaultPermit else l.permit }

/-- A station record write is applied (R175): the record is replaced and the Limits Unit takes up its
fields, B and C each formed once. The write is not itself a trigger. -/
def applyStation (r : StationRec) (s : State) : State :=
  formCap (formBudget
    { s with
      store := { s.store with station := r }
      limits := limitsRewritten s.store.station r s.limits })

end Sys2Proof.Machine
end

