-- ==== Sys2Proof/Machine/RingPort.lean ====
section
/-! DEFINITION. The Ring Port: collection of telegrams (R158 to R160), classification (R161 to R164), the
arbiter's grant as the line falls idle (R167), and the ends of transmission (R166). -/

namespace Sys2Proof.Machine

open Sys2Proof

/-! ## Collection (R158 to R160) -/

/-- A telegram joins the receive queue, or is lost as an overrun while the queue holds 8 (R160). -/
def enqueue (e : RxEntry) (s : State) : State :=
  if s.ring.rx.length < 8 then { s with ring := { s.ring with rx := s.ring.rx ++ [e] } }
  else raiseCondition .ringFault (bump Counters.upReceiveOverruns s)

/-- The length octet of a collection that has reached it (R158). -/
def collectedLength (l : List Octet) : Option Nat := octetOf l 3

/-- Whether a collection's length octet is above 48 (R159). -/
def lengthFault (l : List Octet) : Bool := ((collectedLength l).map fun n => decide (48 < n)).getD false

/-- Whether a collection has reached its last check octet (R158). -/
def collectionDone (l : List Octet) : Bool :=
  match collectedLength l with
  | some n => decide (n ≤ 48) && decide (l.length = n + 6)
  | none => false

/-- The entry of a telegram collected whole (R159, R160). -/
def wholeEntry (c : Collector) : RxEntry :=
  let n := (collectedLength c.octets).getD 0
  { header := c.octets.take 4
    payload := slice c.octets 4 n
    flags :=
      { parity := c.parityBad
        length := false
        truncated := false
        check := decide (c.octets.drop (4 + n) ≠ checkOctets (c.octets.take (4 + n))) } }

/-- Whether a silence finds a collection before its last check octet, counting the octets that a LENGTH fault has
not kept (R158, R159). -/
def cutShort (c : Collector) : Bool :=
  match collectedLength c.octets with
  | some n => decide (c.octets.length + c.unkept < n + 6)
  | none => true

/-- The entry of a collection that a silence ends (R159): LENGTH with no payload, or the octets received; and
TRUNCATED where the telegram was not complete, a LENGTH telegram among them (log entry 29). -/
def silenceEntry (c : Collector) : RxEntry :=
  { header := c.octets.take 4
    payload := if lengthFault c.octets then [] else slice c.octets 4 ((collectedLength c.octets).getD 0)
    flags :=
      { parity := c.parityBad
        length := lengthFault c.octets
        truncated := cutShort c
        check := false } }

/-- A collection with one more octet: octets of a LENGTH telegram are taken and not kept (R159). The count of those
goes no further than the longest telegram a length octet can announce. -/
def collect (c : Collector) (o : RxOctet) : Collector :=
  if lengthFault c.octets then
    { c with unkept := countUp 257 c.unkept, parityBad := c.parityBad || !parityOk o }
  else { c with octets := c.octets ++ [o.value], parityBad := c.parityBad || !parityOk o }

/-- One octet on the upstream port (R158): it begins a collection, is ignored, or joins the collection. -/
def receiveOctet (s : State) (o : RxOctet) : State :=
  match s.ring.collecting with
  | none =>
    if o.value = startOctet && parityOk o then
      { s with ring := { s.ring with collecting := some ⟨[], false, 0⟩ } }
    else s
  | some c =>
    let c' := collect c o
    if collectionDone c'.octets then
      enqueue (wholeEntry c') { s with ring := { s.ring with collecting := none } }
    else { s with ring := { s.ring with collecting := some c' } }

/-- Whether the upstream port collects: the controller is ready and the bypass relay open (R169, log
entry 27). -/
def collects (s : State) : Bool := !s.board.relayClosed

/-- RECEIVE_TELEGRAM (R158 to R160). -/
def execReceiveTelegram (octets : List RxOctet) (s : State) : Host.Outcome State Fault Refusal :=
  whenReady s fun s => if collects s then octets.foldl receiveOctet s else s

/-- RECEIVE_SILENCE (R159): the collection ends. -/
def execReceiveSilence (s : State) : Host.Outcome State Fault Refusal :=
  whenReady s fun s =>
    match s.ring.collecting with
    | some c =>
      if collects s then enqueue (silenceEntry c) { s with ring := { s.ring with collecting := none } } else s
    | none => s

/-! ## Classification (R161 to R164) -/

/-- The telegram of an unflagged receive queue entry. -/
def RxEntry.telegram (e : RxEntry) : Option Telegram :=
  match e.header with
  | [d, c, k, _] =>
    if e.flags.parity || e.flags.length || e.flags.truncated || e.flags.check then none else some ⟨d, c, k, e.payload⟩
  | _ => none

/-- The kinds that R162 has taken at destination 63 from a proper origin. -/
def takenHere (k : Octet) : Bool :=
  decide (k = kindLevelReport) || decide (k = kindUnitReport) || decide (k = kindEnrolTake)
  || decide (k = kindSupplyLimit) || decide (k = kindPermitSet) || decide (k = kindPermitHold)
  || decide (k = kindPermitRelease) || isManagement k

/-- The kinds that R162 has taken at destination 127. -/
def takenAtBroadcast (k : Octet) : Bool :=
  decide (k = kindLevelReport) || decide (k = kindUnitReport) || decide (k = kindSupplyLimit)
  || decide (k = kindPermitSet) || decide (k = kindPermitHold) || decide (k = kindPermitRelease)

/-- Whether a source is the proper origin of a kind, as the tables stand (R162). -/
def properOrigin (s : State) (k src : Octet) : Bool :=
  if k = kindLevelReport then (gaugeAtNode s src).isSome
  else if k = kindUnitReport then (enrolledAt s src).isSome
  else if k = kindEnrolTake then
    match s.enrol.offered with
    | some u => decide (src = driveAddress u)
    | none => false
  else if k = kindSupplyLimit then decide (src = addrSupply)
  else if k = kindPermitSet ∨ k = kindPermitHold ∨ k = kindPermitRelease then decide (src = addrPermit)
  else isManagement k && decide (src = addrSupervisor)

/-- A telegram is handed to its owner (R161, log entry 1). -/
def deliver (t : Telegram) (s : State) : State :=
  { s with ring := { s.ring with delivered := s.ring.delivered ++ [t] } }

/-- Whether an ORIGIN refusal can be addressed to a source (R162). -/
def canAnswer (src : Octet) : Bool := decide (src.toNat ≠ 0) && decide (src.toNat < 127)

/-- The ORIGIN refusal of a request (R162, R186). -/
def originRefusal (t : Telegram) : Telegram :=
  ⟨t.src, addrController, kindRefused, [t.kind, BitVec.ofNat 8 Reason.origin.code]⟩

/-- A telegram addressed to 63 is consumed by kind and origin (R162). -/
def consume (t : Telegram) (s : State) : State :=
  if takenHere t.kind && properOrigin s t.kind t.src then deliver t s
  else
    let s1 := bump Counters.upOriginRefusals s
    if isManagement t.kind && canAnswer t.src then depositReply ⟨originRefusal t, false⟩ s1 else s1

/-- A broadcast telegram, already forwarded, is consumed if its kind is taken there (R162). -/
def consumeBroadcast (t : Telegram) (s : State) : State :=
  if takenAtBroadcast t.kind then
    if properOrigin s t.kind t.src then deliver t s else bump Counters.upOriginRefusals s
  else s

/-- A flagged entry is discarded (R161, row 1). -/
def discardFlagged (s : State) : State := raiseCondition .ringFault (bump Counters.upLineFaults s)

/-- A foreign UNIT ORDER is blocked (R163). -/
def blockOrder (s : State) : State := raiseCondition .foreignOrder (bump Counters.upBlockedOrders s)

/-- Whether a telegram is a UNIT ORDER to an enrolled unit's drive (R161, row 6). -/
def foreignOrder (s : State) (t : Telegram) : Bool :=
  decide (t.kind = kindUnitOrder) && (enrolledAt s t.dest).isSome

/-- An unflagged entry is disposed of by rows 2 to 7 of R161. -/
def dispose (t : Telegram) (s : State) : State :=
  if t.src = addrController then (if t.kind = kindEnrolOffer then deliver t s else s)
  else if t.dest = 0#8 then s
  else if t.dest = addrController then consume t s
  else if t.dest = addrBroadcast then consumeBroadcast t (depositForward t s)
  else if foreignOrder s t then blockOrder s
  else depositForward t s

/-- Whether an unflagged entry's disposition includes forwarding: rows 5 and 7 of R161 (R164). -/
def forwards (s : State) (t : Telegram) : Bool :=
  decide (t.src ≠ addrController) && decide (t.dest ≠ 0#8) && decide (t.dest ≠ addrController)
  && (decide (t.dest = addrBroadcast) || !foreignOrder s t)

/-- Whether an unflagged entry asks for room in the reply queue: a management kind addressed to 63,
whatever its source (R164, log entry 38). -/
def asksReply (t : Telegram) : Bool := decide (t.dest = addrController) && isManagement t.kind

/-- Whether the head entry waits (R164, log entry 7). -/
def mustWait (s : State) (t : Telegram) : Bool :=
  (forwards s t && decide (8 ≤ s.ring.forward.length)) || (asksReply t && !replyRoom s.ring)

/-- The head of the receive queue is taken, if it has one and that need not wait (R161, R164). -/
def classify (s : State) : State :=
  match s.ring.rx with
  | [] => s
  | e :: l =>
    let s1 := { s with ring := { s.ring with rx := l } }
    match e.telegram with
    | none => discardFlagged s1
    | some t => if mustWait s t then s else dispose t s1

/-- CLASSIFICATION (R161 to R164). -/
def execClassification (s : State) : Host.Outcome State Fault Refusal := whenReady s classify

/-! ## The line (R166 to R168) -/

/-- LINE_IDLE_GRANT (R167, R168): the gap of 4 octet times has passed and the line falls idle. -/
def execLineIdleGrant (s : State) : Host.Outcome State Fault Refusal :=
  whenReady s fun s => if s.ring.line = .gap then grant { s with ring := { s.ring with line := .idle } } else s

/-- Whether the line carries a telegram of a queue. -/
def sendingFrom (q : QueueName) (s : State) : Bool :=
  match s.ring.line with
  | .sending q' _ => decide (q' = q)
  | _ => false

/-- The line after the end of a transmission: the gap before it falls idle (R168). -/
def endSending (r : Ring) : Ring := { r with line := .gap }

/-- The poll on the line, if the line carries one. -/
def sentPoll (s : State) : Option PollEntry := if sendingFrom .poll s then s.ring.polls.head? else none

/-- The poll queue with its oldest entry, whose transmission has ended, removed (R166). -/
def popPoll (s : State) : State :=
  { s with ring := endSending { s.ring with polls := s.ring.polls.tail } }

/-- A gauge's reply timer is armed at the end of its poll's transmission (R18). -/
def levelPollTimed (g : GaugeId) (e : PollEntry) (s : State) : State :=
  if e.live then
    { s with gauges := upd s.gauges g fun x => { x with replyTimer := some s.store.station.replyTimeout } }
  else s

/-- LEVEL_POLL_SENT (R18, R166): freed room is filled from the due list. -/
def execLevelPollSent (s : State) : Host.Outcome State Fault Refusal :=
  whenReady s fun s =>
    match sentPoll s with
    | some e =>
      match e.target with
      | .gauge g => fillPolls (levelPollTimed g e (popPoll s))
      | .unit _ => s
    | none => s

/-- A unit's poll reply timer is armed at the end of its poll's transmission (R69). -/
def unitPollTimed (u : UnitId) (e : PollEntry) (s : State) : State :=
  if e.live then setUnit u (fun r => { r with pollTimer := some s.store.station.replyTimeout }) s else s

/-- UNIT_POLL_SENT (R69, R166): freed room is filled from the due list. -/
def execUnitPollSent (s : State) : Host.Outcome State Fault Refusal :=
  whenReady s fun s =>
    match sentPoll s with
    | some e =>
      match e.target with
      | .unit u => fillPolls (unitPollTimed u e (popPoll s))
      | .gauge _ => s
    | none => s

/-- The order queue entry on the line, if the line carries one. -/
def sentOrder (s : State) : Option OrderEntry :=
  if sendingFrom .order s then s.ring.orders.find? fun e => e.sending else none

/-- The order queue with the entry whose transmission has ended removed (R166). -/
def popOrder (s : State) : State :=
  { s with ring := endSending { s.ring with orders := s.ring.orders.eraseP fun e => e.sending } }

/-- A unit's order becomes its in-flight order and its reply timer is armed (R87); one that the unit has
lost with its enrolment does not (R67, log entry 16). -/
def orderInFlight (u : UnitId) (o : Order) (e : OrderEntry) (s : State) : State :=
  if e.dropped then s
  else setUnit u (fun r => { r with inFlight := some ⟨o, s.store.station.replyTimeout⟩ }) s

/-- UNIT_ORDER_SENT (R87, R166). -/
def execUnitOrderSent (s : State) : Host.Outcome State Fault Refusal :=
  whenReady s fun s =>
    match sentOrder s with
    | some e =>
      match e.item with
      | .unitOrder u o => orderInFlight u o e (popOrder s)
      | .offer _ => s
      | .release => s
    | none => s

/-- The enrolment after the end of an offer's transmission (R63). -/
def offerSent (u : UnitId) (e : Enrolment) : Enrolment :=
  if e.state = .offering ∧ e.offered = some u then { e with state := .waiting, timer := some enrolSeconds } else e

/-- ENROL_OFFER_SENT (R63, R166). -/
def execEnrolOfferSent (s : State) : Host.Outcome State Fault Refusal :=
  whenReady s fun s =>
    match sentOrder s with
    | some e =>
      match e.item with
      | .offer u => { popOrder s with enrol := offerSent u s.enrol }
      | .unitOrder _ _ => s
      | .release => s
    | none => s

/-- ENROL_RELEASE_SENT (R166). -/
def execEnrolReleaseSent (s : State) : Host.Outcome State Fault Refusal :=
  whenReady s fun s =>
    match sentOrder s with
    | some e =>
      match e.item with
      | .release => popOrder s
      | .unitOrder _ _ => s
      | .offer _ => s
    | none => s

/-- FORWARDED_SENT (R166): FORWARDED rises by 1. -/
def execForwardedSent (s : State) : Host.Outcome State Fault Refusal :=
  whenReady s fun s =>
    if sendingFrom .forward s then
      bump Counters.upForwarded { s with ring := endSending { s.ring with forward := s.ring.forward.tail } }
    else s

/-- The RESTART sequence goes on as the transmission of its ACCEPTED ends (R170). -/
def restartReplied (e : ReplyEntry) (b : Board) : Board := if e.restart then { b with restart := .replied } else b

/-- REPLY_SENT (R166, R170). -/
def execReplySent (s : State) : Host.Outcome State Fault Refusal :=
  whenReady s fun s =>
    if sendingFrom .reply s then
      match s.ring.replies with
      | e :: l => { s with ring := endSending { s.ring with replies := l }, board := restartReplied e s.board }
      | [] => s
    else s

end Sys2Proof.Machine
end

