-- ==== Sys2Proof/Machine/Management.lean ====
section
/-! DEFINITION. Station Control's management requests: how a request is taken and answered (R172, R173), the
table writes and reads (R174, R175, R187), MODE SET (R142, R143), MANUAL ORDER (R145), UNIT SERVICE and
TRIP CLEAR (R90, R91), the queries and their answers (R176, R186), CONDITION CLEAR (R179), COUNTER READ
(R181), ENROL START (R62, R66) and RESTART (R170). -/

namespace Sys2Proof.Machine

open Sys2Proof

/-! ## Taking and answering a request (R172) -/

/-- The outcome of a request: the reply it is given and what it does. A refusal does nothing, but for the
last part of a TABLE WRITE (R187). -/
structure Verdict where
  kind : Octet
  body : List Octet
  restart : Bool
  effect : State → State

/-- A refusal with its reason (R173, R186). -/
def refused (r : Reason) : Verdict := ⟨kindRefused, [BitVec.ofNat 8 r.code], false, id⟩

/-- ACCEPTED, with an effect (R186). -/
def accepted (f : State → State) : Verdict := ⟨kindAccepted, [], false, f⟩

/-- An answer that carries values, with an effect (R186). -/
def answered (kind : Octet) (body : List Octet) (f : State → State) : Verdict := ⟨kind, body, false, f⟩

/-- The reply to a request: from 63 to 48, its payload opened by the kind of the request (R172, R186). -/
def replyEntry (kind : Octet) (v : Verdict) : ReplyEntry :=
  ⟨⟨addrSupervisor, addrController, v.kind, kind :: v.body⟩, v.restart⟩

/-- The reply takes its place in the reply queue, to be deposited once the request has been applied (R172). -/
def holdReply (e : ReplyEntry) (s : State) : State :=
  { s with ring := { s.ring with replies := s.ring.replies ++ [e], replyHeld := true } }

/-- The reply is deposited: the arbiter grants if the line is idle (R167, R172). -/
def releaseReply (s : State) : State := grant { s with ring := { s.ring with replyHeld := false } }

/-- A request is applied or refused, and answered: the reply is deposited after the effect, and stands
before any ATTENTION that the effect raises (R172, log entry 37). -/
def answerRequest (kind : Octet) (v : Verdict) (s : State) : State :=
  releaseReply (v.effect (holdReply (replyEntry kind v) s))

/-- A management request is taken from the delivered telegrams and answered; one for whose answer the reply
queue has no room is not taken (R164, R172, log entry 7). -/
def takeRequest (kind : Octet) (payload : List Octet) (rule : State → Verdict) (s : State) : State :=
  let s0 := takeDelivered (sameTelegram kind addrSupervisor payload) s
  if replyRoom s0.ring then answerRequest kind (rule s0) s0 else s

/-- A request that is taken by a ready controller. -/
def request (kind : Octet) (payload : List Octet) (rule : State → Verdict) (s : State) :
    Host.Outcome State Fault Refusal :=
  whenReady s (takeRequest kind payload rule)

/-- A request that names a unit in one octet (R172, R185): RANGE for another length, UNKNOWN for a number
outside 1 to 12. -/
def aboutUnit (payload : List Octet) (f : UnitId → Verdict) : Verdict :=
  match payload with
  | [n] =>
    match unitNumbered n.toNat with
    | some u => f u
    | none => refused .unknown
  | _ => refused .range

/-! ## Table writes (R174, R175, R187) -/

/-- A record's outcome: the reason of the first check that fails, or its application. -/
def checked (r : Option Reason) (f : State → State) : Verdict :=
  match r with
  | some r => refused r
  | none => accepted f

/-- A write of the station record (R175): UNKNOWN, then MODE, then RANGE. -/
def writeStation (record : Nat) (octets : List Octet) (s : State) : Verdict :=
  if record ≠ 0 then refused .unknown
  else if s.station.mode ≠ .setup then refused .mode
  else
    match stationOf octets with
    | some r => if stationInRange r then accepted (applyStation r) else refused .range
    | none => refused .range

/-- A write of a gauge record (R1, R2). -/
def writeGauge (record : Nat) (octets : List Octet) (s : State) : Verdict :=
  match gaugeNumbered record with
  | some g => checked (checkGauge s g (gaugeOf octets)) (applyGauge g (gaugeOf octets))
  | none => refused .unknown

/-- A write of the river record (R3). -/
def writeRiver (record : Nat) (octets : List Octet) : Verdict :=
  if record ≠ 0 then refused .unknown else checked (checkRiver (riverOf octets)) (applyRiver (riverOf octets))

/-- A write of a basin record (R45, R46). -/
def writeBasin (record : Nat) (octets : List Octet) (s : State) : Verdict :=
  match basinNumbered record with
  | some b => checked (checkBasin s b (numAt octets 0 1) (basinOf octets)) (applyBasin b (basinOf octets))
  | none => refused .unknown

/-- A write of a type record (R26, R27). -/
def writeType (record : Nat) (octets : List Octet) (s : State) : Verdict :=
  match typeNumbered record with
  | some t => checked (checkType s t (typeOf octets)) (applyType t (typeOf octets))
  | none => refused .unknown

/-- A write of a unit record (R61). -/
def writeUnit (record : Nat) (octets : List Octet) (s : State) : Verdict :=
  match unitNumbered record with
  | some u => checked (checkUnit s u (unitWriteOf octets)) (applyUnit u (unitWriteOf octets))
  | none => refused .unknown

/-- A whole record goes to the owner of its table (R174). -/
def writeRecord (table record : Nat) (octets : List Octet) (s : State) : Verdict :=
  match table with
  | 1 => writeStation record octets s
  | 2 => writeGauge record octets s
  | 3 => writeRiver record octets
  | 4 => writeBasin record octets s
  | 5 => writeType record octets s
  | 6 => writeUnit record octets s
  | _ => refused .unknown

/-- The write assembly is set (R187). -/
def setAssembly (a : Option Assembly) (s : State) : State :=
  { s with station := { s.station with assembly := a } }

/-- The assembly becomes empty with the last part, whether the record is accepted or refused (R187). -/
def emptying (v : Verdict) : Verdict := { v with effect := fun s => v.effect (setAssembly none s) }

/-- Whether the assembly holds parts 1 to `k - 1` of a record (R187). -/
def follows (a : Assembly) (table record k : Nat) : Bool :=
  decide (a.table = table) && decide (a.record = record) && decide (a.parts.length + 1 = k)

/-- Part 1 of a record of several parts replaces the assembly (R187). -/
def firstPart (table record : Nat) (octets : List Octet) : Verdict :=
  accepted (setAssembly (some ⟨table, record, [octets]⟩))

/-- A later part of a record of several parts (R187). -/
def laterPart (table record k : Nat) (octets : List Octet) (s : State) : Verdict :=
  match s.station.assembly with
  | some a =>
    if follows a table record k then
      if k = partCount table then emptying (writeRecord table record (a.parts.flatten ++ octets) s)
      else accepted (setAssembly (some { a with parts := a.parts ++ [octets] }))
    else refused .range
  | none => refused .range

/-- A well-formed part of a record (R174, R187). -/
def writePart (table record k : Nat) (octets : List Octet) (s : State) : Verdict :=
  if partCount table = 1 then writeRecord table record octets s
  else if k = 1 then firstPart table record octets
  else laterPart table record k octets s

/-- A TABLE WRITE (R172, R174, R187): the table number, then the part and its length and named values, then
the rule of the record. A payload with no table number is refused with RANGE (log entry 19). DEDUCED (log entry
18): a last part refused here by its length or a named value leaves the write assembly as it stands, since R187
empties it with a last part whose whole record has gone to its checks. -/
def tableWrite (payload : List Octet) (s : State) : Verdict :=
  match payload with
  | [] => refused .range
  | table :: rest =>
    if recordLength table.toNat = 0 then refused .unknown
    else
      match rest with
      | record :: part :: octets =>
        if hasPart table.toNat part.toNat && decide (octets.length = partLength table.toNat part.toNat)
            && partNamed table.toNat part.toNat octets then
          writePart table.toNat record.toNat part.toNat octets s
        else refused .range
      | _ => refused .range

/-- TABLE_WRITE_STATION (R175). -/
def execTableWriteStation (payload : List Octet) (s : State) : Host.Outcome State Fault Refusal :=
  request kindTableWrite payload (tableWrite payload) s

/-- TABLE_WRITE_GAUGE (R1, R2). -/
def execTableWriteGauge (payload : List Octet) (s : State) : Host.Outcome State Fault Refusal :=
  request kindTableWrite payload (tableWrite payload) s

/-- TABLE_WRITE_RIVER (R3). -/
def execTableWriteRiver (payload : List Octet) (s : State) : Host.Outcome State Fault Refusal :=
  request kindTableWrite payload (tableWrite payload) s

/-- TABLE_WRITE_BASIN (R45, R46): the last part of a basin record. -/
def execTableWriteBasin (payload : List Octet) (s : State) : Host.Outcome State Fault Refusal :=
  request kindTableWrite payload (tableWrite payload) s

/-- TABLE_WRITE_TYPE (R26, R27): the last part of a type record. -/
def execTableWriteType (payload : List Octet) (s : State) : Host.Outcome State Fault Refusal :=
  request kindTableWrite payload (tableWrite payload) s

/-- TABLE_WRITE_UNIT (R61). -/
def execTableWriteUnit (payload : List Octet) (s : State) : Host.Outcome State Fault Refusal :=
  request kindTableWrite payload (tableWrite payload) s

/-- TABLE_WRITE_PART (R187): a part that is not the last. -/
def execTableWritePart (payload : List Octet) (s : State) : Host.Outcome State Fault Refusal :=
  request kindTableWrite payload (tableWrite payload) s

/-! ## Table reads (R174, R187) -/

/-- A record as the table store holds it, in its layout; none for a record number out of range (R174). -/
def recordOctets (store : Store) (table record : Nat) : Option (List Octet) :=
  match table with
  | 1 => if record = 0 then some (stationOctets store.station) else none
  | 2 => (gaugeNumbered record).map fun g => gaugeOctets store.gauges[g]
  | 3 => if record = 0 then some (riverOctets store.river) else none
  | 4 => (basinNumbered record).map fun b => basinOctets store.basins[b]
  | 5 => (typeNumbered record).map fun t => typeOctets store.types[t]
  | 6 => (unitNumbered record).map fun u => unitOctets store.units[u]
  | _ => none

/-- Part `k` of a record's octets (R187). -/
def partOf (k : Nat) (octets : List Octet) : List Octet := slice octets (40 * (k - 1)) 40

/-- A TABLE READ (R172, R174, R187). -/
def tableReading (payload : List Octet) (s : State) : Verdict :=
  match payload with
  | [] => refused .range
  | table :: rest =>
    if recordLength table.toNat = 0 then refused .unknown
    else
      match rest with
      | [record, part] =>
        if hasPart table.toNat part.toNat then
          match recordOctets s.store table.toNat record.toNat with
          | some octets => answered kindTableContent ([table, record, part] ++ partOf part.toNat octets) id
          | none => refused .unknown
        else refused .range
      | _ => refused .range

/-- TABLE_READ (R174, R187). -/
def execTableRead (payload : List Octet) (s : State) : Host.Outcome State Fault Refusal :=
  request kindTableRead payload (tableReading payload) s

/-! ## MODE SET (R142, R143) -/

/-- What an accepted MODE SET that changes the mode does (R143). -/
def changeMode (m : Mode) (s : State) : State :=
  let s1 := { s with station := { s.station with mode := m } }
  let s2 := if s.station.mode = .auto then standbyExit s1 else s1
  trigger (if s.station.mode = .setup then enrolmentLeavesSetup s2 else s2)

/-- The outcome of a MODE SET that names a mode (R142). -/
def modeVerdict (m : Mode) (s : State) : Verdict :=
  if m = s.station.mode then accepted (if m = .auto then standbyExit else id)
  else if m = .setup && !isIdle s then refused .busy
  else accepted (changeMode m)

/-- A MODE SET request (R142, R172). -/
def modeSetting (payload : List Octet) (s : State) : Verdict :=
  match payload with
  | [m] =>
    match modeOf m.toNat with
    | some m => modeVerdict m s
    | none => refused .range
  | _ => refused .range

/-- MODE_SET (R142, R143). -/
def execModeSet (payload : List Octet) (s : State) : Host.Outcome State Fault Refusal :=
  request kindModeSet payload (modeSetting payload) s

/-! ## MANUAL ORDER (R145, R146) -/

/-- The answer to a manual order that has passed R145 (R145, R146, R119). -/
def ruled : Ruled → Verdict
  | .refuse r => refused r
  | .accept f => accepted f

/-- A MANUAL ORDER request (R145, R172): the length, then MODE, UNKNOWN and RANGE, then its route. -/
def manualOrder (payload : List Octet) (s : State) : Verdict :=
  match payload with
  | [n, o, x] =>
    if s.station.mode ≠ .manual then refused .mode
    else
      match unitNumbered n.toNat with
      | none => refused .unknown
      | some u =>
        match manualOrderOf o.toNat x.toNat with
        | some o => ruled (manualRouted u s o)
        | none => refused .range
  | _ => refused .range

/-- MANUAL_ORDER_START (R119, R145). -/
def execManualOrderStart (payload : List Octet) (s : State) : Host.Outcome State Fault Refusal :=
  request kindManualOrder payload (manualOrder payload) s

/-- MANUAL_ORDER_RESTAGE_HIGH (R119, R145). -/
def execManualOrderRestageHigh (payload : List Octet) (s : State) : Host.Outcome State Fault Refusal :=
  request kindManualOrder payload (manualOrder payload) s

/-- MANUAL_ORDER_RESTAGE_LOW (R145, R146). -/
def execManualOrderRestageLow (payload : List Octet) (s : State) : Host.Outcome State Fault Refusal :=
  request kindManualOrder payload (manualOrder payload) s

/-- MANUAL_ORDER_STOP (R145, R146, R120). -/
def execManualOrderStop (payload : List Octet) (s : State) : Host.Outcome State Fault Refusal :=
  request kindManualOrder payload (manualOrder payload) s

/-- MANUAL_ORDER_HALT (R145, R146, R120). -/
def execManualOrderHalt (payload : List Octet) (s : State) : Host.Outcome State Fault Refusal :=
  request kindManualOrder payload (manualOrder payload) s

/-! ## UNIT SERVICE and TRIP CLEAR (R90, R91) -/

/-- A unit is taken out of service (R91). -/
def serviceOutVerdict (u : UnitId) (s : State) : Verdict :=
  if mayLeaveService s.units[u].state then accepted (unitEvent u (serviceOut u)) else refused .state

/-- A unit is put back in service: accepted in every state (R91). -/
def serviceInVerdict (u : UnitId) : Verdict := accepted (unitEvent u (serviceIn u))

/-- A UNIT SERVICE request (R91, R172): the length and the action, then the unit. -/
def unitService (payload : List Octet) (s : State) : Verdict :=
  match payload with
  | [n, a] =>
    if 1 < a.toNat then refused .range
    else aboutUnit [n] fun u => if a.toNat = 0 then serviceOutVerdict u s else serviceInVerdict u
  | _ => refused .range

/-- UNIT_SERVICE_OUT (R91). -/
def execUnitServiceOut (payload : List Octet) (s : State) : Host.Outcome State Fault Refusal :=
  request kindUnitService payload (unitService payload) s

/-- UNIT_SERVICE_IN (R91). -/
def execUnitServiceIn (payload : List Octet) (s : State) : Host.Outcome State Fault Refusal :=
  request kindUnitService payload (unitService payload) s

/-- The outcome of a TRIP CLEAR (R90). -/
def tripClearVerdict (u : UnitId) (s : State) : Verdict :=
  if mayClearTrip s u then accepted (unitEvent u (goResting u)) else refused .state

/-- TRIP_CLEAR (R90). -/
def execTripClear (payload : List Octet) (s : State) : Host.Outcome State Fault Refusal :=
  request kindTripClear payload (fun s => aboutUnit payload fun u => tripClearVerdict u s) s

/-! ## STATION STATUS (R176, R186) -/

/-- The unit number a field of four bits carries, 0 for none (R186). -/
def optionalUnit : Option UnitId → Nat
  | some u => unitNumber u
  | none => 0

/-- The purpose of a held allowance as a field of one bit: START, RAISE (R186). -/
def Purpose.bit : Purpose → Nat
  | .start => 0
  | .raise => 1

/-- The allowance's octet: state, purpose and holder (R186). The purpose is carried when HELD (R123) and
is absent otherwise (log entry 11). -/
def allowanceOctet : Allowance → List Octet
  | .free => packed 1 [(2, 0), (1, orOnes 1 none), (4, 0)]
  | .held u p => packed 1 [(2, 1), (1, orOnes 1 (some p.bit)), (4, unitNumber u)]
  | .spacing => packed 1 [(2, 2), (1, orOnes 1 none), (4, 0)]

/-- The stage of a field of one bit: LOW, HIGH (R186). -/
def stageBit : Stage → Nat
  | .low => 0
  | .high => 1

/-- The candidate's octet: unit, stage and phase, which follows the unit's state (R186, R97). Stage and
phase are absent when there is no candidate (R123, log entry 11). -/
def candidateOctet (s : State) : List Octet :=
  packed 1 [(4, optionalUnit (s.engine.candidate.map fun c => c.unit)),
    (1, orOnes 1 (s.engine.candidate.map fun c => stageBit c.stage)),
    (1, orOnes 1 (s.engine.candidate.map fun c => boolBit (s.units[c.unit].state = .warning)))]

/-- The stack's entry at a place, 0 beyond its top (R186). -/
def stackEntry (s : State) (i : Nat) : Nat := optionalUnit s.engine.stack[i]?

/-- The six octets of the stack, two entries each, the higher half first (R186). -/
def stackOctets (s : State) : List Octet :=
  [0, 2, 4, 6, 8, 10].flatMap fun i => packed 1 [(4, stackEntry s i), (4, stackEntry s (i + 1))]

/-- D_b as it is carried: 0 for a basin not in use (R186). -/
def deliveryCarried (s : State) (b : BasinId) : Nat :=
  if s.store.basins[b].inUse then committedDelivery s b else 0

/-- The 45 octets of STATION STATUS after the request's kind (R176, R186). -/
def stationStatus (s : State) : List Octet :=
  packed 1 [(2, s.station.mode.code), (1, boolBit s.station.standby), (1, boolBit s.horn.line),
    (1, boolBit s.horn.required), (1, boolBit s.horn.rearmTimer.isSome), (1, boolBit s.limits.hold)]
  ++ packed 1 [(2, s.limits.supplyState.code), (1, s.limits.permitSource.code), (2, s.enrol.state.code)]
  ++ natOctets 1 (highestCode s.station.conditions) ++ natOctets 2 (pendingSet s.station.conditions)
  ++ natOctets 3 s.limits.budget ++ natOctets 3 s.limits.cap ++ natOctets 3 s.limits.supplyLimit
  ++ natOctets 3 s.limits.permit ++ natOctets 3 (committedPower s) ++ natOctets 3 (permitDischarge s)
  ++ allBasins.flatMap (fun b => natOctets 3 (deliveryCarried s b))
  ++ allowanceOctet s.engine.allowance ++ candidateOctet s
  ++ natOctets 1 (optionalUnit s.enrol.offered) ++ natOctets 1 s.engine.stack.length
  ++ stackOctets s

/-- A STATION QUERY (R176): the deposit of an answer that carries ENROLMENT DONE clears it (R178). -/
def stationQuery (payload : List Octet) (s : State) : Verdict :=
  if payload.isEmpty then answered kindStationStatus (stationStatus s) (setPending .enrolmentDone false)
  else refused .range

/-- STATION_QUERY (R176). -/
def execStationQuery (payload : List Octet) (s : State) : Host.Outcome State Fault Refusal :=
  request kindStationQuery payload (stationQuery payload) s

/-! ## POINT STATUS (R176, R186) -/

/-- The twelve octets of a gauge (R186). -/
def gaugeStatus (s : State) (g : GaugeId) : List Octet :=
  let r := s.gauges[g]
  natOctets 1 g.val
  ++ packed 1 [(3, r.status.code), (2, r.health.code), (2, faultyCode r.faulty)]
  ++ packed 1 [(2, pollKindCode r.poll), (2, r.disagree), (3, r.agree)]
  ++ orMostNegative 3 r.reading ++ orMostNegative 3 r.level ++ natOctets 2 (orOnes 16 r.age)
  ++ natOctets 1 r.miss

/-- The level status that octet 2 carries: the river point has none (R186, log entry 11). -/
def levelStatusCarried (s : State) (p : PointId) : Nat :=
  orOnes 3 ((pointBasin p).map fun b => s.basins[b].status.code)

/-- Octets 5 to 8 of POINT STATUS: a basin's values, or the river level in use (R186). -/
def pointValues (s : State) (p : PointId) : List Octet :=
  match pointBasin p with
  | some b =>
    let r := s.basins[b]
    packed 1 [(3, r.step), (1, boolBit r.override), (1, boolBit r.blind), (1, boolBit r.atCritical),
      (1, boolBit r.dry), (1, boolBit r.atWake)]
    ++ natOctets 3 r.target
  | none => intOctets 2 s.riverUse.level ++ natOctets 1 s.riverUse.source.code ++ natOctets 1 0

/-- The in-use gauges of a point, in gauge-number order (R24). -/
def gaugesOf (s : State) (p : PointId) : List GaugeId :=
  allGauges.filter fun g => decide (gaugePoint s.store.gauges[g] = some p)

/-- The octets of POINT STATUS after the request's kind (R176, R186, R24, R59). -/
def pointStatus (s : State) (p : PointId) : List Octet :=
  let c := s.points[p].cur
  natOctets 1 (p.val + 1)
  ++ packed 1 [(3, c.state.code), (1, boolBit c.holdExpired), (3, levelStatusCarried s p)]
  ++ orMostNegative 2 c.level ++ pointValues s p
  ++ (gaugesOf s p).flatMap (gaugeStatus s)

/-- A POINT QUERY (R176). -/
def pointQuery (payload : List Octet) (s : State) : Verdict :=
  match payload with
  | [n] =>
    match pointNumbered n.toNat with
    | some p => answered kindPointStatus (pointStatus s p) id
    | none => refused .unknown
  | _ => refused .range

/-- POINT_QUERY (R176). -/
def execPointQuery (payload : List Octet) (s : State) : Host.Outcome State Fault Refusal :=
  request kindPointQuery payload (pointQuery payload) s

/-! ## UNIT STATUS (R176, R186) -/

/-- Octets 3 and 4 of UNIT STATUS: the last report, its fields absent where there is none (R186, log
entry 11). -/
def reportOctets (r : Option Report) : List Octet :=
  packed 2 [(1, boolBit r.isSome), (1, orOnes 1 (r.map fun x => x.place.code)),
    (3, orOnes 3 (r.map fun x => x.motion.code)), (4, orOnes 4 (r.map fun x => x.trip)),
    (2, orOnes 2 (r.map fun x => x.outcome.code))]

/-- The drive's trip code in a trip reason (R186). -/
def tripCodeOf : Option TripReason → Option Nat
  | some (.driveTrip c) => some c
  | _ => none

/-- The stage status of a stage entry, absent where the entry is (R186, R36). -/
def stageStatusCarried (e : Option StageEst) : Nat := orOnes 3 (e.map fun x => x.status.code)

/-- The discharge and power of a stage entry (R186). -/
def stageOctets (e : Option StageEst) : List Octet :=
  natOctets 2 (orOnes 16 (e.map fun x => x.q)) ++ natOctets 2 (orOnes 16 (e.map fun x => x.p))

/-- Octets 11 to 22 of UNIT STATUS: the estimate record (R43, R186). -/
def estimateOctets (e : Option Estimate) : List Octet :=
  packed 1 [(2, orOnes 2 (e.map fun x => x.status.code)),
    (2, orOnes 2 ((e.bind fun x => x.riverSource).map RiverSource.code)),
    (2, orOnes 2 ((e.bind fun x => x.basinSource).map BasinSource.code))]
  ++ packed 1 [(3, stageStatusCarried (e.bind fun x => x.high)), (3, stageStatusCarried (e.bind fun x => x.low))]
  ++ natOctets 2 (orOnes 16 (e.bind fun x => x.head))
  ++ stageOctets (e.bind fun x => x.high) ++ stageOctets (e.bind fun x => x.low)

/-- The 22 octets of UNIT STATUS after the request's kind (R176, R186, R93, R43). -/
def unitStatus (s : State) (u : UnitId) : List Octet :=
  let r := s.units[u]
  natOctets 1 (unitNumber u)
  ++ packed 1 [(4, r.state.code), (2, optionalStageCode r.stage)]
  ++ reportOctets r.lastReport
  ++ packed 1 [(3, tripReasonCode r.trip), (4, orOnes 4 (tripCodeOf r.trip))]
  ++ natOctets 2 s.store.units[u].startCount ++ natOctets 1 r.miss
  ++ packed 2 [(3, optionalOrderCode (queuedOrder s u)), (3, optionalOrderCode (r.inFlight.map fun x => x.order)),
      (3, optionalOrderCode r.pendingOrder), (2, r.minRun.code)]
  ++ estimateOctets r.est

/-- UNIT_QUERY (R176). -/
def execUnitQuery (payload : List Octet) (s : State) : Host.Outcome State Fault Refusal :=
  request kindUnitQuery payload
    (fun s => aboutUnit payload fun u => answered kindUnitStatus (unitStatus s u) id) s

/-! ## CONDITION CLEAR (R179) -/

/-- The condition of a code (R177). -/
def conditionOf (n : Nat) : Option Condition := allConditions.find? fun c => decide (c.code = n)

/-- A CONDITION CLEAR request (R179). -/
def conditionClearing (payload : List Octet) : Verdict :=
  match payload with
  | [n] =>
    match conditionOf n.toNat with
    | some c => accepted (if c.latched then setPending c false else id)
    | none => refused .range
  | _ => refused .range

/-- CONDITION_CLEAR (R179). -/
def execConditionClear (payload : List Octet) (s : State) : Host.Outcome State Fault Refusal :=
  request kindConditionClear payload (fun _ => conditionClearing payload) s

/-! ## COUNTER READ (R181) -/

/-- The seven counters in the order of R181 (R186). -/
def counterOctets (c : Counters) : List Octet :=
  natOctets 2 c.lineFaults ++ natOctets 2 c.receiveOverruns ++ natOctets 2 c.forwarded
  ++ natOctets 2 c.blockedOrders ++ natOctets 2 c.originRefusals ++ natOctets 2 c.skippedPolls
  ++ natOctets 2 c.droppedAttentions

/-- A COUNTER READ request (R181). -/
def counterReading (payload : List Octet) (s : State) : Verdict :=
  match payload with
  | [o] =>
    if o.toNat = 0 then answered kindCounterStatus (counterOctets s.station.counters) id
    else if o.toNat = 1 then
      answered kindCounterStatus (counterOctets s.station.counters) (bump fun _ => Counters.zero)
    else refused .range
  | _ => refused .range

/-- COUNTER_READ (R181). -/
def execCounterRead (payload : List Octet) (s : State) : Host.Outcome State Fault Refusal :=
  request kindCounterRead payload (counterReading payload) s

/-- COUNTER_READ_CLEAR (R181). -/
def execCounterReadClear (payload : List Octet) (s : State) : Host.Outcome State Fault Refusal :=
  request kindCounterRead payload (counterReading payload) s

/-! ## ENROL START and RELEASE (R62, R66) -/

/-- The outcome of action START (R62). -/
def enrolStartVerdict (s : State) : Verdict :=
  if s.station.mode ≠ .setup then refused .mode
  else if enrolling s then refused .busy
  else accepted nextOffer

/-- The outcome of action RELEASE (R66). -/
def enrolReleaseVerdict (s : State) : Verdict :=
  if s.station.mode ≠ .setup then refused .mode
  else if releaseBusy s then refused .busy
  else accepted releaseEnrolments

/-- An ENROL START request, by its action (R172, R185). -/
def enrolRequest (payload : List Octet) (s : State) : Verdict :=
  match payload with
  | [a] =>
    if a.toNat = 0 then enrolStartVerdict s
    else if a.toNat = 1 then enrolReleaseVerdict s
    else refused .range
  | _ => refused .range

/-- ENROL_START (R62). -/
def execEnrolStart (payload : List Octet) (s : State) : Host.Outcome State Fault Refusal :=
  request kindEnrolStart payload (enrolRequest payload) s

/-- ENROL_RELEASE (R66). -/
def execEnrolRelease (payload : List Octet) (s : State) : Host.Outcome State Fault Refusal :=
  request kindEnrolStart payload (enrolRequest payload) s

/-! ## RESTART (R170) -/

/-- A RESTART is accepted (R170): the first begins the sequence. -/
def beginRestart (s : State) : State :=
  if s.board.restart = .none then { s with board := { s.board with restart := .accepted } } else s

/-- A RESTART request (R170): the first ACCEPTED deposited after it is the one whose transmission goes on
with the sequence. -/
def restarting (payload : List Octet) (s : State) : Verdict :=
  if payload.isEmpty then { accepted beginRestart with restart := decide (s.board.restart = .none) }
  else refused .range

/-- RESTART (R170). -/
def execRestart (payload : List Octet) (s : State) : Host.Outcome State Fault Refusal :=
  request kindRestart payload (restarting payload) s

end Sys2Proof.Machine
end

