-- ==== Sys2Proof/Machine/ResetOps.lean ====
section
/-! DEFINITION. The controller reset (R169) with the reset of each block (R23, R42, R58, R92, R122, R139,
R156, R171, R182), the RESTART sequence's reset and hold (R170), the bypass relay, the reset input and the
loss and return of power (R169). -/

namespace Sys2Proof.Machine

open Sys2Proof

/-! ## The blocks' reset states -/

/-- A point after a controller reset (R23): an in-use point's lost timer armed with its lost hold time, a
hold time of 0 setting the hold-expired flag as it is armed (R14). The values last published are UNSEEN with
the flag clear. -/
def pointReset (inUse : Bool) (hold : Nat) : PointRt :=
  if inUse then ⟨⟨.unseen, none, decide (hold = 0)⟩, armed hold, .unseen⟩ else PointRt.unseen

/-- A basin after a controller reset (R58). -/
def basinReset (inUse : Bool) : BasinRt :=
  if inUse then { BasinRt.notInUse with status := .unseen } else BasinRt.notInUse

/-- The state of a unit after a controller reset (R92). -/
def unitStateReset (r : UnitRec) : UnitState :=
  if !r.inService then .outOfService else if r.enrolled then .unknown else .vacant

/-- The Limits Unit after a controller reset (R139). -/
def limitsReset (r : StationRec) : Limits where
  supplyLimit := r.fallbackBudget
  supplyState := .awaiting
  silenceTimer := some r.silenceTime
  budget := min r.ceiling r.fallbackBudget
  permit := r.defaultPermit
  permitSource := .default
  hold := false
  cap := r.defaultPermit

/-- Station Control after a controller reset (R156, R182, R187); the station is idle (R99). -/
def stationReset (r : StationRec) : Station where
  mode := r.startMode
  standby := false
  idle := true
  conditions := Vector.replicate 13 false
  counters := Counters.zero
  assembly := none

/-- The Ring Port after a controller reset (R171). -/
def ringReset : Ring where
  collecting := none
  rx := []
  delivered := []
  forward := []
  orders := []
  polls := []
  replies := []
  replyHeld := false
  demandDue := []
  unitDue := []
  backgroundDue := []
  line := .idle
  rotation := .reply

/-- The Dispatch Engine after a controller reset (R122). -/
def engineReset : Engine := ⟨[], .free, none, none, false, false⟩

/-- The board as a controller reset is taken (R169, R171): the relay closes and the rate pins are read. -/
def boardReset (pins : LineRate) (b : Board) : Board :=
  { b with resetHold := false, relayClosed := true, restart := .none, ratePins := pins, lineRate := pins }

/-- Every block takes its reset state; the table store is kept. -/
def blocksReset (pins : LineRate) (s : State) : State :=
  { s with
    gauges := Vector.replicate 16 GaugeRt.initial
    points := Vector.ofFn fun p : PointId => pointReset (pointInUse s p) (pointHold s p)
    riverUse := ⟨s.store.river.fallback, .fallback⟩
    basins := Vector.ofFn fun b : BasinId => basinReset s.store.basins[b].inUse
    units := Vector.ofFn fun u : UnitId => UnitRt.fresh (unitStateReset s.store.units[u])
    enrol := ⟨.idle, none, none⟩
    engine := engineReset
    evalDue := 0
    limits := limitsReset s.store.station
    station := stationReset s.store.station
    horn := ⟨false, true, none, some s.store.station.hornRearm⟩
    pollTimers := ⟨some s.store.station.gaugePollInterval, some s.store.station.unitPollInterval⟩
    ring := ringReset
    board := boardReset pins s.board }

/-- The first round of polls: the units' and the gauges' entries in number order (R23, R92, R171), all placed
before the poll queue takes from them (log entry 40). -/
def firstPolls (s : State) : State := fillPolls (placeBackgroundRound (placeUnitRound s))

/-- The points whose hold-expired flag was set as their lost timer was armed are published (R23); with the
first of them POINT LOST is found pending (R182). -/
def publishResets (s : State) : State := allPoints.foldl (fun s p => if pointInUse s p then publishPoint p s else s) s

/-- The controller reset (R169): every block's reset state, the estimates formed afresh (R42), the first
round of polls, and what the reset publishes. -/
def controllerReset (pins : LineRate) (s : State) : State :=
  publishResets (firstPolls (reformAll (blocksReset pins s)))

/-! ## The steps of the board (R169, R170) -/

/-- RESTART_RELAY_CLOSE (R170): after the RESTART's ACCEPTED and the upstream silence the relay closes, the
controller reset is taken and held for 100 ms. A collection in progress is not cut: the relay waits for the silence
that ends it and enters its telegram (R159, R160). -/
def execRestartRelayClose (pins : LineRate) (s : State) : Host.Outcome State Fault Refusal :=
  whenReady s fun s =>
    if s.board.restart = .replied && s.ring.collecting.isNone then
      let s1 := controllerReset pins s
      { s1 with board := { s1.board with resetHold := true } }
    else s

/-- RESET_HOLD_EXPIRY (R170): the 100 ms hold ends. -/
def execResetHoldExpiry (s : State) : Host.Outcome State Fault Refusal :=
  .next { s with board := { s.board with resetHold := false } }

/-- BYPASS_RELAY_OPEN (R169): the controller is ready and the upstream line has been silent; the relay opens
and the arbiter may grant (R167). -/
def execBypassRelayOpen (s : State) : Host.Outcome State Fault Refusal :=
  whenReady s fun s =>
    if s.board.relayClosed then grant { s with board := { s.board with relayClosed := false } } else s

/-- RESET_INPUT (R169): the reset input is asserted. With power the relay closes, the horn line goes
inactive (R147) and a controller reset is taken. -/
def execResetInput (pins : LineRate) (s : State) : Host.Outcome State Fault Refusal :=
  .next
    (if s.board.resetInput then s
     else
       let s1 := { s with board := { s.board with resetInput := true, ratePins := pins } }
       if s.board.powered then controllerReset pins s1 else s1)

/-- RESET_INPUT_RELEASE (R169): the reset input is deasserted. -/
def execResetInputRelease (s : State) : Host.Outcome State Fault Refusal :=
  .next { s with board := { s.board with resetInput := false } }

/-- POWER_ON (R169): power arrives and a controller reset is taken with the relay closed. -/
def execPowerOn (pins : LineRate) (s : State) : Host.Outcome State Fault Refusal :=
  .next (if s.board.powered then s else controllerReset pins { s with board := { s.board with powered := true } })

/-- The module without power (R169, R147): the relay closes, the transmission ends where it stands, and the
warning period and the horn line with it. The reset of POWER_ON replaces what the volatile state held (log
entry 22). -/
def withoutPower (s : State) : State :=
  { s with
    horn := { s.horn with line := false, warningTimer := none }
    ring := { s.ring with line := .idle }
    board := { s.board with powered := false, resetHold := false, relayClosed := true } }

/-- POWER_LOSS (R169). -/
def execPowerLoss (s : State) : Host.Outcome State Fault Refusal :=
  .next (if s.board.powered then withoutPower s else s)

end Sys2Proof.Machine
end

