-- ==== Sys2Proof/Machine/Dispatch.lean ====
section
/-! DEFINITION. The meaning of every command, one arm for each row of spec/opcode_table.json. -/

namespace Sys2Proof.Machine

open Sys2Proof

def exec (i : Instr) (s : State) : Host.Outcome State Fault Refusal :=
  match i with
  | .receiveTelegram octets => Sys2Proof.Machine.execReceiveTelegram octets s
  | .receiveSilence => Sys2Proof.Machine.execReceiveSilence s
  | .classification => Sys2Proof.Machine.execClassification s
  | .levelReport src payload => Sys2Proof.Machine.execLevelReport src payload s
  | .staleTimerExpiry gauge => Sys2Proof.Machine.execStaleTimerExpiry gauge s
  | .lostTimerExpiry point => Sys2Proof.Machine.execLostTimerExpiry point s
  | .gaugePollTimerExpiry => Sys2Proof.Machine.execGaugePollTimerExpiry s
  | .backgroundPollTimeout gauge => Sys2Proof.Machine.execBackgroundPollTimeout gauge s
  | .demandPollTimeout gauge => Sys2Proof.Machine.execDemandPollTimeout gauge s
  | .unitReport src payload => Sys2Proof.Machine.execUnitReport src payload s
  | .unitPollTimerExpiry => Sys2Proof.Machine.execUnitPollTimerExpiry s
  | .unitPollTimeout unit => Sys2Proof.Machine.execUnitPollTimeout unit s
  | .orderReplyTimeout unit => Sys2Proof.Machine.execOrderReplyTimeout unit s
  | .startConfirmExpiry unit => Sys2Proof.Machine.execStartConfirmExpiry unit s
  | .restageConfirmExpiry unit => Sys2Proof.Machine.execRestageConfirmExpiry unit s
  | .stopConfirmExpiry unit => Sys2Proof.Machine.execStopConfirmExpiry unit s
  | .restTimerExpiry unit => Sys2Proof.Machine.execRestTimerExpiry unit s
  | .minimumRunExpiry unit => Sys2Proof.Machine.execMinimumRunExpiry unit s
  | .enrolTake src payload => Sys2Proof.Machine.execEnrolTake src payload s
  | .enrolOfferReturn => Sys2Proof.Machine.execEnrolOfferReturn s
  | .enrolmentTimerExpiry => Sys2Proof.Machine.execEnrolmentTimerExpiry s
  | .supplyLimit payload => Sys2Proof.Machine.execSupplyLimit payload s
  | .supplySilenceExpiry => Sys2Proof.Machine.execSupplySilenceExpiry s
  | .permitSet payload => Sys2Proof.Machine.execPermitSet payload s
  | .permitHold payload => Sys2Proof.Machine.execPermitHold payload s
  | .permitRelease payload => Sys2Proof.Machine.execPermitRelease payload s
  | .evaluation => Sys2Proof.Machine.execEvaluation s
  | .confirmingEnd => Sys2Proof.Machine.execConfirmingEnd s
  | .warningTimerExpiry => Sys2Proof.Machine.execWarningTimerExpiry s
  | .spacingTimerExpiry => Sys2Proof.Machine.execSpacingTimerExpiry s
  | .hornRearmExpiry => Sys2Proof.Machine.execHornRearmExpiry s
  | .tableWriteStation payload => Sys2Proof.Machine.execTableWriteStation payload s
  | .tableWriteGauge payload => Sys2Proof.Machine.execTableWriteGauge payload s
  | .tableWriteRiver payload => Sys2Proof.Machine.execTableWriteRiver payload s
  | .tableWriteBasin payload => Sys2Proof.Machine.execTableWriteBasin payload s
  | .tableWriteType payload => Sys2Proof.Machine.execTableWriteType payload s
  | .tableWriteUnit payload => Sys2Proof.Machine.execTableWriteUnit payload s
  | .tableWritePart payload => Sys2Proof.Machine.execTableWritePart payload s
  | .tableRead payload => Sys2Proof.Machine.execTableRead payload s
  | .modeSet payload => Sys2Proof.Machine.execModeSet payload s
  | .manualOrderStart payload => Sys2Proof.Machine.execManualOrderStart payload s
  | .manualOrderRestageHigh payload => Sys2Proof.Machine.execManualOrderRestageHigh payload s
  | .manualOrderRestageLow payload => Sys2Proof.Machine.execManualOrderRestageLow payload s
  | .manualOrderStop payload => Sys2Proof.Machine.execManualOrderStop payload s
  | .manualOrderHalt payload => Sys2Proof.Machine.execManualOrderHalt payload s
  | .unitServiceOut payload => Sys2Proof.Machine.execUnitServiceOut payload s
  | .unitServiceIn payload => Sys2Proof.Machine.execUnitServiceIn payload s
  | .tripClear payload => Sys2Proof.Machine.execTripClear payload s
  | .stationQuery payload => Sys2Proof.Machine.execStationQuery payload s
  | .pointQuery payload => Sys2Proof.Machine.execPointQuery payload s
  | .unitQuery payload => Sys2Proof.Machine.execUnitQuery payload s
  | .conditionClear payload => Sys2Proof.Machine.execConditionClear payload s
  | .counterRead payload => Sys2Proof.Machine.execCounterRead payload s
  | .counterReadClear payload => Sys2Proof.Machine.execCounterReadClear payload s
  | .enrolStart payload => Sys2Proof.Machine.execEnrolStart payload s
  | .enrolRelease payload => Sys2Proof.Machine.execEnrolRelease payload s
  | .restart payload => Sys2Proof.Machine.execRestart payload s
  | .lineIdleGrant => Sys2Proof.Machine.execLineIdleGrant s
  | .levelPollSent => Sys2Proof.Machine.execLevelPollSent s
  | .unitPollSent => Sys2Proof.Machine.execUnitPollSent s
  | .unitOrderSent => Sys2Proof.Machine.execUnitOrderSent s
  | .enrolOfferSent => Sys2Proof.Machine.execEnrolOfferSent s
  | .enrolReleaseSent => Sys2Proof.Machine.execEnrolReleaseSent s
  | .forwardedSent => Sys2Proof.Machine.execForwardedSent s
  | .replySent => Sys2Proof.Machine.execReplySent s
  | .restartRelayClose pins => Sys2Proof.Machine.execRestartRelayClose pins s
  | .resetHoldExpiry => Sys2Proof.Machine.execResetHoldExpiry s
  | .bypassRelayOpen => Sys2Proof.Machine.execBypassRelayOpen s
  | .resetInput pins => Sys2Proof.Machine.execResetInput pins s
  | .powerOn pins => Sys2Proof.Machine.execPowerOn pins s
  | .powerLoss => Sys2Proof.Machine.execPowerLoss s
  | .resetInputRelease => Sys2Proof.Machine.execResetInputRelease s

end Sys2Proof.Machine
end

