-- ==== Sys2Proof/Machine/Tick.lean ====
section
/-! DEFINITION. The passing of one second: what happens whatever is commanded. Of the quantities of time the
7312 holds, the sample age alone is a value that counts (1.2); every timer is held as the duration it was
armed with, and its expiry is a command (log entries 4 and 5). -/

namespace Sys2Proof.Machine

open Sys2Proof

/-- A gauge one second later: its sample age, 0 to 65535, saturating (1.2). -/
def GaugeRt.aged (g : GaugeRt) : GaugeRt := { g with age := g.age.map (countUp 65535) }

/-- One second passes (log entry 4); a controller that is not ready ages nothing. -/
def tick (s : State) : State :=
  if s.ready then { s with gauges := Vector.ofFn fun g : GaugeId => s.gauges[g].aged } else s

end Sys2Proof.Machine
end

