-- ==== Sys2Proof/Safety.lean ====
section
/-! DEFINITION. The terms the claims use: the parts of the state, for saying what a command leaves unchanged;
when a request is taken; and the laws that every state a run reaches obeys. -/

namespace Sys2Proof.Machine

open Sys2Proof

/-! ## Frames -/

/-- The parts of the machine's state; together they are all of it. -/
inductive Part where
  | commands
  | store
  | gauges
  | points
  | river
  | basins
  | units
  | estimates
  | enrolment
  | stack
  | allowance
  | candidate
  | spacing
  | unmet
  | evaluations
  | limits
  | mode
  | standby
  | idle
  | conditions
  | counters
  | assembly
  | hornLine
  | hornRequired
  | rearm
  | pollTimers
  | collection
  | received
  | delivered
  | forwarded
  | orders
  | polls
  | due
  | replies
  | line
  | board
  | free
  deriving DecidableEq, Repr

/-- A unit's runtime state without its estimate record, which is a part of its own. -/
def UnitRt.bare (r : UnitRt) : UnitRt := { r with est := none }

/-- An order queue entry without the mark of the line, which is a part of its own. -/
def OrderEntry.unsent (e : OrderEntry) : OrderEntry := { e with sending := false }

/-- Whether a part of the state is the same in two states. The line is the telegram it carries, the marks of
the order queue's entries, the rotation pointer and the hold of a reply. -/
def same (s t : State) : Part → Prop
  | .commands => t.pending = s.pending
  | .store => t.store = s.store
  | .gauges => t.gauges = s.gauges
  | .points => t.points = s.points
  | .river => t.riverUse = s.riverUse
  | .basins => t.basins = s.basins
  | .units => ∀ u : UnitId, t.units[u].bare = s.units[u].bare
  | .estimates => ∀ u : UnitId, t.units[u].est = s.units[u].est
  | .enrolment => t.enrol = s.enrol
  | .stack => t.engine.stack = s.engine.stack
  | .allowance => t.engine.allowance = s.engine.allowance
  | .candidate => t.engine.candidate = s.engine.candidate
  | .spacing => t.engine.spacingTimer = s.engine.spacingTimer
  | .unmet => t.engine.budgetUnmet = s.engine.budgetUnmet ∧ t.engine.permitUnmet = s.engine.permitUnmet
  | .evaluations => t.evalDue = s.evalDue
  | .limits => t.limits = s.limits
  | .mode => t.station.mode = s.station.mode
  | .standby => t.station.standby = s.station.standby
  | .idle => t.station.idle = s.station.idle
  | .conditions => t.station.conditions = s.station.conditions
  | .counters => t.station.counters = s.station.counters
  | .assembly => t.station.assembly = s.station.assembly
  | .hornLine => t.horn.line = s.horn.line ∧ t.horn.warningTimer = s.horn.warningTimer
  | .hornRequired => t.horn.required = s.horn.required
  | .rearm => t.horn.rearmTimer = s.horn.rearmTimer
  | .pollTimers => t.pollTimers = s.pollTimers
  | .collection => t.ring.collecting = s.ring.collecting
  | .received => t.ring.rx = s.ring.rx
  | .delivered => t.ring.delivered = s.ring.delivered
  | .forwarded => t.ring.forward = s.ring.forward
  | .orders => t.ring.orders.map OrderEntry.unsent = s.ring.orders.map OrderEntry.unsent
  | .polls => t.ring.polls = s.ring.polls
  | .due =>
    t.ring.demandDue = s.ring.demandDue ∧ t.ring.unitDue = s.ring.unitDue
    ∧ t.ring.backgroundDue = s.ring.backgroundDue
  | .replies => t.ring.replies = s.ring.replies
  | .line =>
    t.ring.line = s.ring.line ∧ t.ring.rotation = s.ring.rotation ∧ t.ring.replyHeld = s.ring.replyHeld
    ∧ t.ring.orders.map OrderEntry.sending = s.ring.orders.map OrderEntry.sending
  | .board => t.board = s.board
  | .free => t.freeCount = s.freeCount

/-- Every part of the state but those named is the same in `t` as in `s`. -/
def unchangedBut (parts : List Part) (s t : State) : Prop := ∀ p : Part, p ∉ parts → same s t p

/-- The parts that a condition going pending may change (R153, R155, R167, R177, R180): the condition set,
the ATTENTION in the reply queue or its count when dropped, the line that may carry it, and the exit from
standby with its poll timers, the horn-required flag and the trigger. -/
def announcing : List Part :=
  [.conditions, .counters, .replies, .line, .standby, .pollTimers, .hornRequired, .evaluations]

/-- The parts that a condition with a code above 6 going pending may change: it does not end standby (R153). -/
def latching : List Part := [.conditions, .counters, .replies, .line]

/-- The parts that a vote and its publication may change (R15, R16, R37, R57). -/
def voting : List Part := [.points, .river, .basins, .estimates] ++ announcing

/-- The parts that a unit's transition may change (R75, R94, R95, R99, R116). -/
def moving : List Part := [.units, .estimates, .stack, .allowance, .candidate, .hornLine, .idle, .rearm] ++ announcing

/-- Every unit but `u` is as it was. -/
def restOfUnits (u : UnitId) (s t : State) : Prop := ∀ v : UnitId, v ≠ u → t.units[v] = s.units[v]

/-- Every gauge but `g` is as it was. -/
def restOfGauges (g : GaugeId) (s t : State) : Prop := ∀ h : GaugeId, h ≠ g → t.gauges[h] = s.gauges[h]

/-- Every condition but those named is as it was. -/
def restOfConditions (l : List Condition) (s t : State) : Prop :=
  ∀ c : Condition, c ∉ l → isPending c t = isPending c s

/-- The arbiter has granted the idle line from the queues of `r` (R167): the HALT deposited first, the rotation
standing; else the oldest telegram of the first non-empty queue after the one granted last; nothing with the queues
empty. -/
def grantedFrom (r : Ring) (t : State) : Prop :=
  if r.orders.any isHalt = true then
    t.ring.rotation = r.rotation
    ∧ ∃ (a b : List OrderEntry) (e : OrderEntry), r.orders = a ++ e :: b ∧ isHalt e = true
      ∧ (∀ f ∈ a, isHalt f = true → e.haltTurn < f.haltTurn)
      ∧ (∀ f ∈ b, isHalt f = true → e.haltTurn ≤ f.haltTurn)
      ∧ t.ring.orders = a ++ { e with sending := true } :: b
      ∧ t.ring.line = .sending .order (orderTelegram e.item)
  else
    match r.rotation.cycle.find? fun q => (queueHead r q).isSome with
    | some q => (∃ x, queueHead r q = some x ∧ t.ring.line = .sending q x) ∧ t.ring.rotation = q
        ∧ t.ring.orders = (match q, r.orders with
            | .order, e :: l => { e with sending := true } :: l
            | _, l => l)
    | none => t.ring.line = .idle ∧ t.ring.rotation = r.rotation ∧ t.ring.orders = r.orders

/-- The line is idle and the arbiter may grant it: the relay is open and no RESTART's reply has gone out (R167, R169,
R170). -/
abbrev lineOpen (s : State) : Prop :=
  s.ring.line = .idle ∧ s.board.relayClosed = false ∧ s.board.restart ≠ .replied

/-- A point that was `old` has been voted and published: what it holds is published; with a usable gauge it is the
outcome of the vote over the usable gauges, its lost timer idle; and with none a point that had a level by a vote is
LOST, holding that level, its lost timer armed with its hold time, while a LOST or UNSEEN one is as it was (R11, R14,
R15). -/
def votedAt (p : PointId) (old : PointRt) (t : State) : Prop :=
  t.points[p].published = t.points[p].cur
  ∧ (∀ (st : PointState) (l : Int), voteOf (pointBand t p) ((usableAt t p).map Prod.snd) = some (st, l) →
      t.points[p] = ⟨⟨st, some l, false⟩, none, ⟨st, some l, false⟩⟩)
  ∧ (usableAt t p = [] →
      if old.cur.state = .unseen ∨ old.cur.state = .lost then
        t.points[p].cur = old.cur ∧ t.points[p].lostTimer = old.lostTimer
      else
        t.points[p].cur = ⟨.lost, old.cur.level, decide (pointHold t p = 0)⟩
        ∧ t.points[p].lostTimer = if pointHold t p = 0 then none else some (pointHold t p))

/-- Basin `b`'s point after an accepted write of its record, in use before it or not, voted, brought into use or taken
out of it, and published (R4, R14, R47). -/
def pointFormedAgain (b : BasinId) (was : Bool) (s t : State) : Prop :=
  let p := t.points[basinPoint b]
  p.published = p.cur
  ∧ p.cur = (pointRewritten b was { s with store := t.store }).points[basinPoint b].cur
  ∧ p.lostTimer = (pointRewritten b was { s with store := t.store }).points[basinPoint b].lostTimer
  ∧ (was = true → t.store.basins[b].inUse = true → votedAt (basinPoint b) s.points[basinPoint b] t)
  ∧ (was = false → t.store.basins[b].inUse = true →
      votedAt (basinPoint b) (pointIntoUse t.store.basins[b].holdTime s.points[basinPoint b]) t)
  ∧ (was = true → t.store.basins[b].inUse = false → p.cur = .unseen ∧ p.lostTimer = none)
  ∧ (was = false → t.store.basins[b].inUse = true → usableAt t (basinPoint b) = [] →
      p.cur = ⟨.unseen, none, decide (t.store.basins[b].holdTime = 0)⟩ ∧ p.lostTimer = armed t.store.basins[b].holdTime)

/-- Basin `b`'s values after an accepted write of its record, `old` those before it (R46 to R48, R53 to R56). -/
def basinFormedAgain (b : BasinId) (old : BasinRt) (t : State) : Prop :=
  let r := t.store.basins[b]
  let p := t.points[basinPoint b].published
  t.basins[b] = basinRewritten r p old
  ∧ (r.inUse = false → t.basins[b] = ⟨.none, 0, 0, false, false, false, false, false⟩)
  ∧ (r.inUse = true →
      t.basins[b].status = levelStatus p ∧ t.basins[b].target = targetOf r t.basins[b].step
      ∧ match definedLevel p with
        | none =>
          t.basins[b].step = (if levelStatus p = .blind then r.blindStep else 0) ∧ t.basins[b].override = false
          ∧ t.basins[b].atCritical = false ∧ t.basins[b].dry = false
        | some l =>
          t.basins[b].step ≤ r.stepCount
          ∧ (t.basins[b].step ≠ 0 → threshold r t.basins[b].step ≤ l)
          ∧ (∀ k, t.basins[b].step < k → k ≤ r.stepCount → l < threshold r k)
          ∧ (t.basins[b].override = true ↔
              r.overrideAllowed = 1
              ∧ (r.criticalLevel ≤ l ∨ (old.override = true ∧ r.criticalLevel - r.hysteresis ≤ l)))
          ∧ t.basins[b].atCritical = decide (r.criticalLevel ≤ l) ∧ t.basins[b].dry = decide (l ≤ r.stopLevel))

/-- The step and the override of basin `b` after a publication of its point, `old` what it held before: VOTED from
VOTED or HELD the step is moved under hysteresis, VOTED from elsewhere it is formed afresh, HELD keeps it, BLIND takes
the blind step, UNSEEN step 0 (R49 to R52); the override goes on at the critical level where the record allows it and
ends below that level less the hysteresis, HELD keeps it, BLIND and UNSEEN end it (R54). -/
def basinFollows (b : BasinId) (old : BasinRt) (t : State) : Prop :=
  let r := t.store.basins[b]
  let new := t.basins[b]
  match new.status, t.points[basinPoint b].published.level with
  | .voted, some l =>
    new.step ≤ r.stepCount ∧ (new.step < r.stepCount → l < threshold r (new.step + 1))
    ∧ (if old.status = .voted ∨ old.status = .held then
        (old.step < new.step → threshold r new.step ≤ l)
        ∧ (new.step < old.step → l < threshold r (new.step + 1) - r.hysteresis)
        ∧ (new.step ≠ 0 → new.step ≤ old.step → threshold r new.step - r.hysteresis ≤ l)
      else new.step ≠ 0 → threshold r new.step ≤ l)
    ∧ (new.override = true ↔
        if old.override = true then r.criticalLevel - r.hysteresis ≤ l
        else r.overrideAllowed = 1 ∧ r.criticalLevel ≤ l)
  | .held, _ => new.step = old.step ∧ new.override = old.override
  | .blind, _ => new.step = r.blindStep ∧ new.override = false
  | _, _ => new.step = 0 ∧ new.override = false

/-- Every basin in use whose point has been published anew follows the publication and every other basin is as it was;
what has been published, a change of step and a change of override are triggers (R15, R49 to R54, R57). -/
def basinsFollow (s t : State) : Prop :=
  (∀ b : BasinId,
    if s.store.basins[b].inUse = false ∨ t.points[basinPoint b].published = s.points[basinPoint b].published then
      t.basins[b] = s.basins[b]
    else basinFollows b s.basins[b] t)
  ∧ ∀ p : PointId, t.points[p].published ≠ s.points[p].published → s.evalDue < t.evalDue

/-- The ATTENTION of condition `c` (R180): as `c` becomes pending with its code at or below the threshold, a telegram
from 63 to 48 with the code and the pending set as it stands after is deposited where the reply queue has room, and
DROPPED ATTENTIONS rises by 1 where it has none; otherwise nothing is sent and nothing counted. A place kept for a
delivered request is no room (log entry 7). -/
def attentionSent (c : Condition) (s t : State) : Prop :=
  if isPending c s = false ∧ c.code ≤ s.store.station.threshold then
    if s.ring.replies.length + (s.ring.delivered.countP fun x => isManagement x.kind) < 4 then
      (∃ l : List Octet, t.ring.replies = s.ring.replies ++ [⟨⟨48#8, 63#8, 0x6F#8, l⟩, false⟩] ∧ l.length = 3
        ∧ numAt l 0 1 = c.code ∧ numAt l 1 2 < 2 ^ 13
        ∧ ∀ d : Condition, (numAt l 1 2).testBit (d.code - 1) = isPending d t)
      ∧ t.station.counters.droppedAttentions = s.station.counters.droppedAttentions
    else
      t.ring.replies = s.ring.replies
      ∧ t.station.counters.droppedAttentions = min 65535 (s.station.counters.droppedAttentions + 1)
  else
    t.ring.replies = s.ring.replies
    ∧ t.station.counters.droppedAttentions = s.station.counters.droppedAttentions

/-- Standby has ended: it is OFF, the poll timers run with the intervals out of standby, the horn-required flag is set
and an evaluation is due (R155). -/
def standbyEnded (s t : State) : Prop :=
  t.station.standby = false
  ∧ t.pollTimers = ⟨some s.store.station.gaugePollInterval, some s.store.station.unitPollInterval⟩
  ∧ t.horn.required = true ∧ 0 < t.evalDue

/-- Unit `u` holds an order in its queued or its pending slot (R86). -/
def holdsOrder (u : UnitId) (o : Order) (t : State) : Prop :=
  queuedOrder t u = some o ∨ t.units[u].pendingOrder = some o

/-- The entry `e` of the order queue that stood in `s` stands in `t` as well (R75). -/
def stillQueued (e : OrderEntry) (t : State) : Prop := e.unsent ∈ t.ring.orders.map OrderEntry.unsent

/-- Of the order queue of `s` only unit `u`'s own START, RESTAGE and STOP may be gone from that of `t`: a queued HALT,
an order on the line and the other units' orders stay, each as it stood, and so do the enrolment telegrams, one that
waits while the queue has a place left (R75, R165; that one that waits in a full queue may go is the model's choice, log
entry 15). -/
def othersStayQueued (u : UnitId) (s t : State) : Prop :=
  ∀ e ∈ s.ring.orders, (holdsSlot u e = false ∨ isHalt e = true ∨ e.sending = true) →
    (waitsToEnrol e = false ∨ s.ring.orders.length < 16) → stillQueued e t

/-- The states in which a DECLINED answer acts, for the order it declines (R88; a RESTAGE by its own stage, log entry
17). -/
def declineActs (o : Order) (st : UnitState) : Bool :=
  match o, st with
  | .start _, .starting => true
  | .restage .high, .raising => true
  | .restage .low, .lowering => true
  | .stop, .stopping => true
  | .halt, .stopping => true
  | _, _ => false

/-- A report with outcome DECLINED that acts on unit `u`'s state (R88). -/
def declinesNow (u : UnitId) (r : Report) (s : State) : Prop :=
  r.outcome = .declined ∧ ∃ fl, s.units[u].inFlight = some fl ∧ declineActs fl.order s.units[u].state = true

/-- The pending order of unit `u` that a report releases (R88). -/
def releasedOrder (u : UnitId) (r : Report) (s : State) : Option Order :=
  if r.outcome ≠ .none ∧ s.units[u].inFlight.isSome = true then s.units[u].pendingOrder else none

/-- What every report of unit `u`'s drive leaves of the unit itself: the last report, the miss count at 0, the poll
answered by outcome NONE alone, the order in flight ended by TAKEN and DECLINED alone (R69, R70, R87, R88). -/
def reportTaken (u : UnitId) (r : Report) (s t : State) : Prop :=
  t.units[u].lastReport = some r ∧ t.units[u].miss = 0
  ∧ t.units[u].pollTimer = (if r.outcome = .none then none else s.units[u].pollTimer)
  ∧ t.units[u].inFlight = (if r.outcome = .none then s.units[u].inFlight else none)

/-- The order queue with an order of unit `u`, where there is one, at its tail in a place of its own (R86, R165; which
entry gives its place up in a full queue, log entry 15). -/
def ordersJoined (u : UnitId) (o : Option Order) (s : State) : List OrderEntry :=
  match o with
  | none => s.ring.orders.map OrderEntry.unsent
  | some o => (withPlace s.ring.orders).map OrderEntry.unsent ++ [newEntry (.unitOrder u o) s.ring.orders]

/-- The orders after a report that neither issues nor withdraws any: with the order in flight answered the pending
order joins the order queue as a new one (R88), and all else stays. -/
def ordersReleased (u : UnitId) (r : Report) (s t : State) : Prop :=
  t.units[u].pendingOrder
      = (if r.outcome ≠ .none ∧ s.units[u].inFlight.isSome = true then none else s.units[u].pendingOrder)
  ∧ t.ring.orders.map OrderEntry.unsent = ordersJoined u (releasedOrder u r s) s

/-- The orders after a report with which unit `u` leaves service: its START, RESTAGE and STOP that are not on the line
are withdrawn, one just released among them, while a HALT stays; none is issued, and the others' stay (R75, R88). -/
def ordersWithdrawn (u : UnitId) (r : Report) (s t : State) : Prop :=
  (∀ e ∈ t.ring.orders, holdsSlot u e = true → isHalt e = true ∨ e.sending = true)
  ∧ t.units[u].pendingOrder
      = (if r.outcome ≠ .none ∧ s.units[u].inFlight.isSome = true then none
         else if s.units[u].pendingOrder = some .halt then some .halt else none)
  ∧ (releasedOrder u r s = some .halt → queuedOrder t u = some .halt)
  ∧ (∀ e ∈ t.ring.orders,
      e.unsent ∈ s.ring.orders.map OrderEntry.unsent ∨ ∃ o, releasedOrder u r s = some o ∧ e.item = .unitOrder u o)
  ∧ othersStayQueued u s t

/-- Unit `u` has gone to rest: RESTING with its rest timer armed in full, READY for a minimum rest of 0, off the stack
and without the allowance (R76, R94, R95). -/
def restedAs (u : UnitId) (s t : State) : Prop :=
  (if (typeRecOf s u).minRest = 0 then t.units[u].state = .ready ∧ t.units[u].restTimer = none
    else t.units[u].state = .resting ∧ t.units[u].restTimer = some (typeRecOf s u).minRest)
  ∧ t.units[u].stage = none ∧ t.units[u].minRun = .idle ∧ t.units[u].confirmTimer = none
  ∧ t.engine.stack = s.engine.stack.filter (fun v => decide (v ≠ u)) ∧ (∀ q : Purpose, t.engine.allowance ≠ .held u q)
  ∧ t.engine.spacingTimer = s.engine.spacingTimer

/-- The holder's start or raise has been confirmed: SPACING with the spacing timer armed, or FREE at once for a start
spacing of 0 (R95, R96). -/
def spacedAs (s t : State) : Prop :=
  t.engine.allowance = (if s.store.station.startSpacing = 0 then .free else .spacing)
  ∧ t.engine.spacingTimer = (if s.store.station.startSpacing = 0 then none else some s.store.station.startSpacing)

/-- What the settled-report rule leaves of unit `u` that reports motion `m` (R73, R76, R81): it rests, stays UNKNOWN, is
adopted on top of the stack, or in SETUP is ordered to stop. -/
def settledAs (u : UnitId) (m : Motion) (s t : State) : Prop :=
  if m = .stopped then
    t.units[u].stage = none ∧ t.engine.stack = s.engine.stack.filter (fun v => decide (v ≠ u))
    ∧ if (typeRecOf s u).minRest = 0 then t.units[u].state = .ready ∧ t.units[u].restTimer = none
      else t.units[u].state = .resting ∧ t.units[u].restTimer = some (typeRecOf s u).minRest
  else
    match m.stage with
    | none => t.units[u].state = .unknown
        ∧ t.units[u].stage = (if s.units[u].state = .unknown then s.units[u].stage else none)
        ∧ t.engine.stack = s.engine.stack.filter (fun v => decide (v ≠ u))
    | some x =>
      if s.station.mode = .setup then
        t.units[u].state = .stopping ∧ t.units[u].stage = none
        ∧ t.units[u].confirmTimer = some (typeRecOf s u).stopConfirm
        ∧ (holdsOrder u .stop t ∨ holdsOrder u .halt t) ∧ (ordersFree s u = true → holdsOrder u .stop t)
        ∧ t.engine.stack = s.engine.stack.filter (fun v => decide (v ≠ u))
      else
        t.units[u].state = .running ∧ t.units[u].stage = some x ∧ t.units[u].minRun = .elapsed
        ∧ t.engine.stack = s.engine.stack.filter (fun v => decide (v ≠ u)) ++ [u]

/-- An expiry that names no unit, gauge or point of the station (00_scope, Station objects). -/
def namesNothing : Instr → Bool
  | .staleTimerExpiry n => !isGaugeNumber n
  | .backgroundPollTimeout n => !isGaugeNumber n
  | .demandPollTimeout n => !isGaugeNumber n
  | .lostTimerExpiry n => !isPointNumber n
  | .unitPollTimeout n => !isUnitNumber n
  | .orderReplyTimeout n => !isUnitNumber n
  | .startConfirmExpiry n => !isUnitNumber n
  | .restageConfirmExpiry n => !isUnitNumber n
  | .stopConfirmExpiry n => !isUnitNumber n
  | .restTimerExpiry n => !isUnitNumber n
  | .minimumRunExpiry n => !isUnitNumber n
  | _ => false

/-- Unit `u` stands off the stack, and neither the allowance nor the candidacy is its own (R75, R94, R95). -/
def releasedBy (u : UnitId) (t : State) : Prop :=
  u ∉ t.engine.stack ∧ (∀ p : Purpose, t.engine.allowance ≠ .held u p)
  ∧ ∀ c : Candidate, t.engine.candidate = some c → c.unit ≠ u

/-- The replies that are ATTENTION telegrams (R180). -/
def isAttention (e : ReplyEntry) : Bool := decide (e.telegram.kind = kindAttention)

/-- The poll queue has been filled from the due list (R18), with `r` the ring as it stood when the filling began: by as
many as there is room and nodes without a poll for, each the frontmost such entry of its turn, and the due list keeps
the others. -/
def pollsFilledFrom (r : Ring) (s t : State) : Prop :=
  (let w := fillPolls { s with ring := r };
    t.ring.polls = w.ring.polls ∧ t.ring.demandDue = w.ring.demandDue ∧ t.ring.unitDue = w.ring.unitDue
    ∧ t.ring.backgroundDue = w.ring.backgroundDue ∧ t.ring.line = w.ring.line)
  ∧ (4 ≤ t.ring.polls.length ∨ nextDue t.store t.ring = none)
  ∧ ∃ more, t.ring.polls = r.polls ++ more ∧ more.Sublist (duePolls s.store r)
    ∧ more.head? = if r.polls.length < 4 then nextDue s.store r else none

/-- The poll queue has been filled from the due list after a poll's transmission has left it `l` (R18, R166). -/
def pollsRefilled (l : List PollEntry) (s t : State) : Prop :=
  pollsFilledFrom { s.ring with polls := l, line := .gap } s t

/-- START has been issued to the candidate `c` (R77, R117): its unit is STARTING at the candidate's stage, on top
of the stack, its start count risen, its confirm timer armed and START in its slot; the allowance is still its
own and there is no candidate. -/
def startedAs (c : Candidate) (s t : State) : Prop :=
  t.units[c.unit].state = .starting ∧ t.units[c.unit].stage = some c.stage
  ∧ t.units[c.unit].confirmTimer = some (typeRecOf s c.unit).startConfirm
  ∧ t.store.units[c.unit] = { s.store.units[c.unit] with startCount := min 65535 (s.store.units[c.unit].startCount + 1) }
  ∧ (∀ v : UnitId, v ≠ c.unit → t.store.units[v] = s.store.units[v])
  ∧ holdsOrder c.unit (.start c.stage) t
  ∧ t.engine.stack = s.engine.stack ++ [c.unit]
  ∧ t.engine.allowance = .held c.unit .start ∧ t.engine.candidate = none
  ∧ restOfUnits c.unit s t

/-- The candidate `c` has been abandoned (R116): its unit is READY with stage none, the allowance is FREE, no
warning period runs and there is no candidate; the release is a trigger. -/
def abandonedAs (c : Candidate) (s t : State) : Prop :=
  t.units[c.unit].state = .ready ∧ t.units[c.unit].stage = none
  ∧ t.engine.allowance = .free ∧ t.engine.candidate = none ∧ t.engine.stack = s.engine.stack
  ∧ t.horn.line = false ∧ t.horn.warningTimer = none
  ∧ s.evalDue < t.evalDue ∧ restOfUnits c.unit s t

/-- The ranges of the station record's fields (R175). -/
def stationRanges (r : StationRec) : Prop :=
  (10 ≤ r.replyTimeout ∧ r.replyTimeout ≤ 2000) ∧ (1 ≤ r.gaugePollInterval ∧ r.gaugePollInterval ≤ 60)
  ∧ (10 ≤ r.standbyPollInterval ∧ r.standbyPollInterval ≤ 600) ∧ (1 ≤ r.unitPollInterval ∧ r.unitPollInterval ≤ 60)
  ∧ r.ceiling ≤ 1000000 ∧ r.fallbackBudget ≤ 1000000 ∧ (5 ≤ r.silenceTime ∧ r.silenceTime ≤ 600)
  ∧ r.defaultPermit ≤ 500000 ∧ (5 ≤ r.hornWarning ∧ r.hornWarning ≤ 120) ∧ (60 ≤ r.hornRearm ∧ r.hornRearm ≤ 7200)
  ∧ r.startSpacing ≤ 300 ∧ r.threshold ≤ 13

/-- The ranges of a gauge record's fields (R1). -/
abbrev gaugeRanges (r : GaugeRec) : Prop :=
  (1 ≤ r.node ∧ r.node ≤ 31) ∧ (1 ≤ r.point ∧ r.point ≤ 5) ∧ r.encoding ≤ 1
  ∧ (-30000 ≤ r.offset ∧ r.offset ≤ 30000) ∧ (-30000 ≤ r.validMin ∧ r.validMin ≤ 30000)
  ∧ (-30000 ≤ r.validMax ∧ r.validMax ≤ 30000) ∧ (2 ≤ r.staleAge ∧ r.staleAge ≤ 600)

/-- The ranges of a basin record's fields (R44, R45). -/
abbrev basinRanges (r : BasinRec) : Prop :=
  (1 ≤ r.stepCount ∧ r.stepCount ≤ 6) ∧ r.band ≤ 2000 ∧ r.holdTime ≤ 3600 ∧ r.hysteresis ≤ 1000
  ∧ (∀ i : Fin 6, i.val < r.stepCount →
      -30000 ≤ r.steps[i].threshold ∧ r.steps[i].threshold ≤ 30000 ∧ r.steps[i].target ≤ 786420)
  ∧ (-30000 ≤ r.stopLevel ∧ r.stopLevel ≤ 30000) ∧ (-30000 ≤ r.wakeLevel ∧ r.wakeLevel ≤ 30000)
  ∧ (-30000 ≤ r.criticalLevel ∧ r.criticalLevel ≤ 30000) ∧ r.overrideAllowed ≤ 1 ∧ r.emergency ≤ 500000
  ∧ (1 ≤ r.priority ∧ r.priority ≤ 4) ∧ r.outletLoss ≤ 2000 ∧ r.blindStep ≤ r.stepCount

/-- The order of a basin record's steps and levels (R45). -/
abbrev basinOrdered (r : BasinRec) : Prop :=
  (∀ i j : Fin 6, i < j → j.val < r.stepCount →
    r.steps[i].threshold < r.steps[j].threshold ∧ r.steps[i].target ≤ r.steps[j].target)
  ∧ r.stopLevel < r.steps[0].threshold - r.hysteresis ∧ r.wakeLevel ≤ r.steps[0].threshold
  ∧ r.steps[0].threshold < r.criticalLevel

/-- The ranges of a type record's fields (R26). -/
abbrev typeRanges (r : TypeRec) : Prop :=
  (r.stageCount = 1 ∧ r.lowCount = 0 ∨ r.stageCount = 2 ∧ 2 ≤ r.lowCount ∧ r.lowCount ≤ 8)
  ∧ (2 ≤ r.highCount ∧ r.highCount ≤ 8)
  ∧ (∀ i : Fin 8, i.val < r.highCount → r.high[i].h ≤ 60000 ∧ r.high[i].q ≤ 65535 ∧ r.high[i].p ≤ 65535)
  ∧ (∀ i : Fin 8, i.val < r.lowCount → r.low[i].h ≤ 60000 ∧ r.low[i].q ≤ 65535 ∧ r.low[i].p ≤ 65535)
  ∧ r.startPower ≤ 65535 ∧ r.minRun ≤ 3600 ∧ r.minRest ≤ 3600
  ∧ (5 ≤ r.startConfirm ∧ r.startConfirm ≤ 300) ∧ (5 ≤ r.stopConfirm ∧ r.stopConfirm ≤ 600)

/-- The order of a type record's heads, and its start power (R26). -/
abbrev typeOrdered (r : TypeRec) : Prop :=
  (∀ i j : Fin 8, i < j → j.val < r.highCount → r.high[i].h < r.high[j].h)
  ∧ (∀ i j : Fin 8, i < j → j.val < r.lowCount → r.low[i].h < r.low[j].h)
  ∧ (∀ i : Fin 8, i.val < r.highCount → r.high[i].p ≤ r.startPower)
  ∧ ∀ i : Fin 8, i.val < r.lowCount → r.low[i].p ≤ r.startPower

/-- The states of a unit that a record it names may not be taken from: the candidate's, and those of a unit that is
on the stack or stopping (R26, R45, R61). -/
def engagedStates : List UnitState :=
  [.confirming, .warning, .starting, .running, .raising, .lowering, .stopping]

/-- Basin `b` asks for delivery: in use, in deficit and VOTED, HELD or BLIND (R109). -/
def wantsMore (s : State) (b : BasinId) : Prop :=
  s.store.basins[b].inUse = true ∧ committedDelivery s b < s.basins[b].target
  ∧ (s.basins[b].status = .voted ∨ s.basins[b].status = .held ∨ s.basins[b].status = .blind)

/-- Basin `a` is taken before basin `b`: override basins first, then by priority, then by number (R109). -/
def ranksBefore (s : State) (a b : BasinId) : Prop :=
  (s.basins[a].override = true ∧ s.basins[b].override = false)
  ∨ (s.basins[a].override = s.basins[b].override
    ∧ (s.store.basins[a].priority < s.store.basins[b].priority
      ∨ (s.store.basins[a].priority = s.store.basins[b].priority ∧ a < b)))

/-- The permit test of R102 for a discharge `add` brought into basin `b` and `less` given up there. -/
def permitFits (s : State) (b : BasinId) (add less : Nat) : Prop :=
  if s.basins[b].override = true then committedDelivery s b + add ≤ s.store.basins[b].emergency + less
  else permitDischarge s + add ≤ s.limits.cap + less

/-- Unit `u` is the raise option of its basin: the lowest-numbered one in RUNNING LOW of a type in use with both stages
and without an order (R110). -/
def isRaiseOption (s : State) (u : UnitId) : Prop :=
  let fit := fun v : UnitId =>
    basinOfUnit s v = basinOfUnit s u ∧ s.units[v].state = .running ∧ s.units[v].stage = some .low
    ∧ (typeRecOf s v).inUse = true ∧ (typeRecOf s v).stageCount = 2 ∧ ordersFree s v = true
  fit u ∧ ∀ v : UnitId, v < u → ¬ fit v

/-- A raise of unit `u` from LOW to HIGH passes the tests of R102 and adds delivery (R110). -/
def raiseFits (s : State) (u : UnitId) : Prop :=
  0 < qAt s u .high ∧ committedPower s + startPowerOf s u ≤ s.limits.budget + pAt s u .low
  ∧ permitFits s (basinOfUnit s u) (qAt s u .high) (qAt s u .low) ∧ qAt s u .low < qAt s u .high

/-- Unit `u` may be considered for a start: READY, in service, of a type in use and without an order (R111). -/
def isStartable (s : State) (u : UnitId) : Prop :=
  s.units[u].state = .ready ∧ s.store.units[u].inService = true ∧ (typeRecOf s u).inUse = true ∧ ordersFree s u = true

/-- A start of unit `u` at stage `x`, which its type has, passes the tests of R102 (R111). -/
def startFits (s : State) (u : UnitId) (x : Stage) : Prop :=
  (x = .low → (typeRecOf s u).stageCount = 2) ∧ 0 < qAt s u x
  ∧ committedPower s + startPowerOf s u ≤ s.limits.budget ∧ permitFits s (basinOfUnit s u) (qAt s u x) 0

/-- Basin `b` has an option that may be taken (R109 to R111). -/
def hasOption (s : State) (b : BasinId) : Prop :=
  ∃ u : UnitId, basinOfUnit s u = b
    ∧ ((isRaiseOption s u ∧ raiseFits s u) ∨ (isStartable s u ∧ ∃ x : Stage, startFits s u x))

/-- It is basin `b`'s turn in the deficit stage: there is no candidate, the allowance is FREE, basin `b` asks for
delivery, and no basin that ranks before it has an option (R109). -/
def takesTurn (s : State) (b : BasinId) : Prop :=
  s.engine.candidate = none ∧ s.engine.allowance = .free ∧ wantsMore s b
  ∧ ∀ c : BasinId, wantsMore s c → ranksBefore s c b → ¬ hasOption s c

/-- Unit `u` must stop for protection: it is on the stack, and its basin is dry, it is RUNNING beyond its curve, or its
estimate is NO TYPE or NO BASIN (R103). -/
def endangered (s : State) (u : UnitId) : Prop :=
  onStack s.units[u].state = true
  ∧ (s.basins[s.store.units[u].basin].dry = true
    ∨ (s.units[u].state = .running
      ∧ (s.units[u].stage.bind fun x => (stageEst s u x).map StageEst.status) = some .beyondCurve)
    ∨ s.units[u].est.map Estimate.status = some .noType ∨ s.units[u].est.map Estimate.status = some .noBasin)

/-- Unit `u` has been asked to stop: it is STOPPING at stage none, off the stack, and holds a STOP, or a HALT that was
issued before (R81, R86). -/
def askedToStop (u : UnitId) (t : State) : Prop :=
  t.units[u].state = .stopping ∧ t.units[u].stage = none ∧ (holdsOrder u .stop t ∨ holdsOrder u .halt t)
  ∧ releasedBy u t

/-- Unit `u` has been shed from the top of what may be shed (R105, steps 3 and 4, R106): RUNNING HIGH, of a type with
both stages and with a discharge at LOW, it is LOWERING with RESTAGE LOW asked for and its place on the stack kept;
any other is stopped. An allowance it held is FREE (R95), and no other unit changes. -/
def shedAs (u : UnitId) (s t : State) : Prop :=
  (if s.units[u].state = .running ∧ s.units[u].stage = some .high ∧ (typeRecOf s u).stageCount = 2
      ∧ 0 < qAt s u .low then
    t.units[u].state = .lowering ∧ t.units[u].stage = some .low
    ∧ t.units[u].confirmTimer = some (typeRecOf s u).startConfirm
    ∧ (ordersFree s u = true → holdsOrder u (.restage .low) t) ∧ t.engine.stack = s.engine.stack
  else askedToStop u t ∧ t.engine.stack = s.engine.stack.filter (fun v => decide (v ≠ u)))
  ∧ (∀ q : Purpose, s.engine.allowance = .held u q → t.engine.allowance = .free)
  ∧ t.engine.candidate = s.engine.candidate ∧ restOfUnits u s t

/-- The request of unit `u`'s candidacy to end has been taken (R77, R116): the unit is READY with stage none, the
allowance FREE, no warning period runs, the horn-required flag stands and nothing goes out. -/
def givenUp (u : UnitId) (s t : State) : Prop :=
  t.units[u].state = .ready ∧ t.units[u].stage = none ∧ t.engine.allowance = .free ∧ t.engine.candidate = none
  ∧ t.engine.stack = s.engine.stack ∧ t.horn.line = false ∧ t.horn.warningTimer = none
  ∧ t.horn.required = s.horn.required ∧ t.ring = s.ring ∧ restOfUnits u s t

/-- What a controller reset leaves (R23, R42, R58, R92, R122, R139, R156, R171, R182): the stored records and
the waiting commands, and every block at its reset state, with the first round of polls placed and the points
of hold time 0 published, a trigger each. POINT LOST, pending for such a point alone, has its ATTENTION in the reply
queue where its code lies within the threshold; nothing else stands there. The board is said apart. -/
def resetLeaves (s t : State) : Prop :=
  t.pending = s.pending ∧ t.store = s.store
  ∧ (∀ g : GaugeId, t.gauges[g]
      = { GaugeRt.initial with poll := if s.store.gauges[g].inUse = true then some .background else none })
  ∧ (∀ p : PointId,
      t.points[p].cur = ⟨.unseen, none, pointInUse s p && decide (pointHold s p = 0)⟩
      ∧ t.points[p].published = t.points[p].cur
      ∧ t.points[p].lostTimer = if pointInUse s p = true then armed (pointHold s p) else none)
  ∧ t.riverUse = ⟨s.store.river.fallback, .fallback⟩
  ∧ (∀ b : BasinId,
      (s.store.basins[b].inUse = false → t.basins[b] = ⟨.none, 0, 0, false, false, false, false, false⟩)
      ∧ (s.store.basins[b].inUse = true → s.store.basins[b].holdTime ≠ 0 →
          t.basins[b] = ⟨.unseen, 0, 0, false, false, false, false, false⟩)
      ∧ (s.store.basins[b].inUse = true → s.store.basins[b].holdTime = 0 →
          t.basins[b] = ⟨.blind, s.store.basins[b].blindStep,
            targetOf s.store.basins[b] s.store.basins[b].blindStep, false, true, false, false, false⟩))
  ∧ (∀ u : UnitId, t.units[u]
      = { UnitRt.fresh
            (if s.store.units[u].inService = false then .outOfService
             else if s.store.units[u].enrolled = true then .unknown else .vacant)
          with est := estimateFor t u })
  ∧ t.enrol = ⟨.idle, none, none⟩
  ∧ t.engine = ⟨[], .free, none, none, false, false⟩
  ∧ t.limits =
      { supplyLimit := s.store.station.fallbackBudget
        supplyState := .awaiting
        silenceTimer := some s.store.station.silenceTime
        budget := min s.store.station.ceiling s.store.station.fallbackBudget
        permit := s.store.station.defaultPermit
        permitSource := .default
        hold := false
        cap := s.store.station.defaultPermit }
  ∧ t.station.mode = s.store.station.startMode ∧ t.station.standby = false ∧ t.station.idle = true
  ∧ t.station.counters = ⟨0, 0, 0, 0, 0, 0, 0⟩ ∧ t.station.assembly = none
  ∧ (∀ c : Condition, isPending c t = true ↔
      c = .pointLost ∧ ∃ p : PointId, pointInUse s p = true ∧ pointHold s p = 0)
  ∧ t.horn = ⟨false, true, none, some s.store.station.hornRearm⟩
  ∧ t.pollTimers = ⟨some s.store.station.gaugePollInterval, some s.store.station.unitPollInterval⟩
  ∧ t.ring.collecting = none ∧ t.ring.rx = [] ∧ t.ring.delivered = [] ∧ t.ring.forward = [] ∧ t.ring.orders = []
  ∧ t.ring.line = .idle ∧ t.ring.rotation = .reply ∧ t.ring.replies.all isAttention = true
  ∧ (if (∃ p : PointId, pointInUse s p = true ∧ pointHold s p = 0)
        ∧ Condition.pointLost.code ≤ s.store.station.threshold then
      ∃ l : List Octet, t.ring.replies = [⟨⟨48#8, 63#8, 0x6F#8, l⟩, false⟩] ∧ l.length = 3
        ∧ numAt l 0 1 = Condition.pointLost.code ∧ numAt l 1 2 = 2 ^ (Condition.pointLost.code - 1)
    else t.ring.replies = [])
  ∧ (allPoints.countP fun p => pointInUse s p && decide (pointHold s p = 0)) ≤ t.evalDue
  ∧ ((∀ p : PointId, pointInUse s p = true → pointHold s p ≠ 0) → t.evalDue = 0)
  ∧ t.ring.demandDue = []
  ∧ (∀ g : GaugeId, s.store.gauges[g].inUse = true →
      g ∈ t.ring.backgroundDue ∨ ∃ e ∈ t.ring.polls, e.target = .gauge g ∧ e.live = true)
  ∧ ∀ u : UnitId, s.store.units[u].enrolled = true →
      u ∈ t.ring.unitDue ∨ ∃ e ∈ t.ring.polls, e.target = .unit u ∧ e.live = true

/-! ## The layouts of the records and of the frame (10.5, R158) -/

/-- The number that the `n` octets `off` on carry in two's complement (10.1). -/
def signedAt (l : List Octet) (off n : Nat) : Int := (BitVec.ofNat (8 * n) (numAt l off n)).toInt

/-- The octets `l` of a station record, field after field (10.5). -/
def stationLaidOut (l : List Octet) (r : StationRec) : Prop :=
  l.length = 24 ∧ numAt l 0 1 = r.startMode.code ∧ numAt l 1 2 = r.replyTimeout ∧ numAt l 3 1 = r.gaugePollInterval
  ∧ numAt l 4 2 = r.standbyPollInterval ∧ numAt l 6 1 = r.unitPollInterval ∧ numAt l 7 3 = r.ceiling
  ∧ numAt l 10 3 = r.fallbackBudget ∧ numAt l 13 2 = r.silenceTime ∧ numAt l 15 3 = r.defaultPermit
  ∧ numAt l 18 1 = r.hornWarning ∧ numAt l 19 2 = r.hornRearm ∧ numAt l 21 2 = r.startSpacing
  ∧ numAt l 23 1 = r.threshold

/-- The octets `l` of a gauge record, field after field (10.5). -/
def gaugeLaidOut (l : List Octet) (r : GaugeRec) : Prop :=
  l.length = 12 ∧ (r.inUse = true ↔ numAt l 0 1 = 1) ∧ numAt l 1 1 = r.node ∧ numAt l 2 1 = r.point
  ∧ numAt l 3 1 = r.encoding ∧ signedAt l 4 2 = r.offset ∧ signedAt l 6 2 = r.validMin ∧ signedAt l 8 2 = r.validMax
  ∧ numAt l 10 2 = r.staleAge

/-- The octets `l` of a river record, field after field (10.5). -/
def riverLaidOut (l : List Octet) (r : RiverRec) : Prop :=
  l.length = 6 ∧ numAt l 0 2 = r.band ∧ numAt l 2 2 = r.holdTime ∧ signedAt l 4 2 = r.fallback

/-- The octets `l` of a basin record, field after field, with a slot for each step of the record (10.5). -/
def basinLaidOut (l : List Octet) (r : BasinRec) : Prop :=
  l.length = 52 ∧ (r.inUse = true ↔ numAt l 0 1 = 1) ∧ numAt l 1 2 = r.band ∧ numAt l 3 2 = r.holdTime
  ∧ numAt l 5 2 = r.hysteresis ∧ signedAt l 7 2 = r.stopLevel ∧ signedAt l 9 2 = r.wakeLevel
  ∧ signedAt l 11 2 = r.criticalLevel ∧ numAt l 13 1 = r.overrideAllowed ∧ numAt l 14 3 = r.emergency
  ∧ numAt l 17 1 = r.priority ∧ numAt l 18 2 = r.outletLoss ∧ numAt l 20 1 = r.blindStep ∧ numAt l 21 1 = r.stepCount
  ∧ ∀ i : Fin 6, i.val < r.stepCount →
      signedAt l (22 + 5 * i.val) 2 = r.steps[i].threshold ∧ numAt l (24 + 5 * i.val) 3 = r.steps[i].target

/-- The octets `l` of a type record, field after field, with a slot for each point of its curves (10.5). -/
def typeLaidOut (l : List Octet) (r : TypeRec) : Prop :=
  l.length = 110 ∧ (r.inUse = true ↔ numAt l 0 1 = 1) ∧ numAt l 1 1 = r.stageCount ∧ numAt l 2 1 = r.highCount
  ∧ numAt l 3 1 = r.lowCount ∧ numAt l 4 2 = r.startPower ∧ numAt l 6 2 = r.minRun ∧ numAt l 8 2 = r.minRest
  ∧ numAt l 10 2 = r.startConfirm ∧ numAt l 12 2 = r.stopConfirm
  ∧ (∀ i : Fin 8, i.val < r.highCount →
      numAt l (14 + 6 * i.val) 2 = r.high[i].h ∧ numAt l (16 + 6 * i.val) 2 = r.high[i].q
      ∧ numAt l (18 + 6 * i.val) 2 = r.high[i].p)
  ∧ ∀ i : Fin 8, i.val < r.lowCount →
      numAt l (62 + 6 * i.val) 2 = r.low[i].h ∧ numAt l (64 + 6 * i.val) 2 = r.low[i].q
      ∧ numAt l (66 + 6 * i.val) 2 = r.low[i].p

/-- The check register after one bit more of the division by x^16 + x^12 + x^5 + 1 (R158). -/
def dividedBy (r : BitVec 16) (bit : Bool) : BitVec 16 :=
  let rest := (1#16 <<< 12) ^^^ (1#16 <<< 5) ^^^ 1#16
  if r.getLsbD 15 = bit then r <<< 1 else (r <<< 1) ^^^ rest

/-! ## Requests -/

/-- A management request is taken: the controller is ready and the reply queue has room for its answer, the
place kept for this very request counted as room (R164, R172). -/
def takes (kind : Octet) (payload : List Octet) (s : State) : Prop :=
  s.ready = true ∧ replyRoom (takeDelivered (sameTelegram kind addrSupervisor payload) s).ring = true

/-- The reply queue has been given the answer to a request, and after it ATTENTIONs alone (R172, R180). -/
def answeredWith (kind replyKind : Octet) (body : List Octet) (s t : State) : Prop :=
  ∃ restart : Bool, ∃ more : List ReplyEntry,
    t.ring.replies
      = s.ring.replies ++ ⟨⟨addrSupervisor, addrController, replyKind, kind :: body⟩, restart⟩ :: more
    ∧ more.all isAttention = true

/-- The request is answered ACCEPTED (R186). -/
def isAccepted (kind : Octet) (s t : State) : Prop := answeredWith kind kindAccepted [] s t

/-- The request is answered REFUSED with a reason (R173, R186). -/
def isRefused (kind : Octet) (r : Reason) (s t : State) : Prop :=
  answeredWith kind kindRefused [BitVec.ofNat 8 r.code] s t

/-- The parts that any request changes: the delivered request itself, the reply and the line. -/
def answering : List Part := [.delivered, .replies, .line]

/-! ## The status answers (R186) -/

/-- A signed value as `w` bits carry it in two's complement, the most negative one where it is absent (10.1). -/
def signedIn (w : Nat) : Option Int → Nat
  | some i => (BitVec.ofInt w i).toNat
  | none => 2 ^ (w - 1)

/-- An unsigned value as `w` bits carry it, all ones where it is absent (10.1). -/
def unsignedIn (w : Nat) : Option Nat → Nat
  | some n => n % 2 ^ w
  | none => 2 ^ w - 1

/-- The number of a unit, 0 for none (R186). -/
def unitOrZero : Option UnitId → Nat
  | some u => u.val + 1
  | none => 0

/-- The octets `l` of STATION STATUS, from octet 1 on, carry the values of `s` (R176, R186; the bits no field names,
log entry 12, and an absent purpose, stage and phase, log entry 11). -/
def stationStatusCarries (s : State) (l : List Octet) : Prop :=
  l.length = 45
  ∧ numAt l 0 1 = s.station.mode.code * 64 + boolBit s.station.standby * 32 + boolBit s.horn.line * 16
      + boolBit s.horn.required * 8 + boolBit s.horn.rearmTimer.isSome * 4 + boolBit s.limits.hold * 2
  ∧ numAt l 1 1 = s.limits.supplyState.code * 64 + s.limits.permitSource.code * 32 + s.enrol.state.code * 8
  ∧ ((∀ c : Condition, isPending c s = false) → numAt l 2 1 = 0)
  ∧ (∀ c : Condition, isPending c s = true → (∀ d : Condition, d.code < c.code → isPending d s = false) →
      numAt l 2 1 = c.code)
  ∧ (∀ c : Condition, (numAt l 3 2).testBit (c.code - 1) = isPending c s) ∧ numAt l 3 2 < 2 ^ 13
  ∧ numAt l 5 3 = s.limits.budget % 2 ^ 24 ∧ numAt l 8 3 = s.limits.cap % 2 ^ 24
  ∧ numAt l 11 3 = s.limits.supplyLimit % 2 ^ 24 ∧ numAt l 14 3 = s.limits.permit % 2 ^ 24
  ∧ numAt l 17 3 = committedPower s % 2 ^ 24 ∧ numAt l 20 3 = permitDischarge s % 2 ^ 24
  ∧ (∀ b : BasinId, numAt l (23 + 3 * b.val) 3
      = if s.store.basins[b].inUse = true then committedDelivery s b % 2 ^ 24 else 0)
  ∧ numAt l 35 1 = (match s.engine.allowance with
      | .free => 32
      | .held u .start => 64 + (u.val + 1) * 2
      | .held u .raise => 64 + 32 + (u.val + 1) * 2
      | .spacing => 128 + 32)
  ∧ numAt l 36 1 = (match s.engine.candidate with
      | none => 12
      | some c => (c.unit.val + 1) * 16 + boolBit (c.stage = .high) * 8
          + boolBit (s.units[c.unit].state = .warning) * 4)
  ∧ numAt l 37 1 = unitOrZero s.enrol.offered ∧ numAt l 38 1 = s.engine.stack.length % 256
  ∧ ∀ i : Fin 6, numAt l (39 + i.val) 1
      = unitOrZero s.engine.stack[2 * i.val]? * 16 + unitOrZero s.engine.stack[2 * i.val + 1]?

/-- The twelve octets `l` carry the values of gauge `g` (R24, R186). -/
def gaugeStatusCarries (s : State) (g : GaugeId) (l : List Octet) : Prop :=
  l.length = 12 ∧ numAt l 0 1 = g.val
  ∧ numAt l 1 1 = s.gauges[g].status.code * 32 + s.gauges[g].health.code * 8 + faultyCode s.gauges[g].faulty * 2
  ∧ numAt l 2 1 = pollKindCode s.gauges[g].poll * 64 + s.gauges[g].disagree % 4 * 16 + s.gauges[g].agree % 8 * 2
  ∧ numAt l 3 3 = signedIn 24 s.gauges[g].reading ∧ numAt l 6 3 = signedIn 24 s.gauges[g].level
  ∧ numAt l 9 2 = unsignedIn 16 s.gauges[g].age ∧ numAt l 11 1 = s.gauges[g].miss % 256

/-- The octets `l` of POINT STATUS, from octet 1 on, carry the values of point `p` and of its in-use gauges in number
order (R24, R59, R176, R186; the bits no field names, log entry 12, and the river point's level status, log entry
11). -/
def pointStatusCarries (s : State) (p : PointId) (l : List Octet) : Prop :=
  let gs := allGauges.filter fun g => s.store.gauges[g].inUse && decide (s.store.gauges[g].point = p.val + 1)
  l.length = 8 + 12 * gs.length
  ∧ numAt l 0 1 = p.val + 1
  ∧ numAt l 1 1 = s.points[p].cur.state.code * 32 + boolBit s.points[p].cur.holdExpired * 16
      + (match pointBasin p with
          | some b => s.basins[b].status.code
          | none => 7) * 2
  ∧ numAt l 2 2 = signedIn 16 s.points[p].cur.level
  ∧ (match pointBasin p with
      | some b =>
        numAt l 4 1 = s.basins[b].step % 8 * 32 + boolBit s.basins[b].override * 16 + boolBit s.basins[b].blind * 8
          + boolBit s.basins[b].atCritical * 4 + boolBit s.basins[b].dry * 2 + boolBit s.basins[b].atWake
        ∧ numAt l 5 3 = s.basins[b].target % 2 ^ 24
      | none =>
        numAt l 4 2 = signedIn 16 (some s.riverUse.level) ∧ numAt l 6 1 = s.riverUse.source.code ∧ numAt l 7 1 = 0)
  ∧ ∀ i : Fin gs.length, gaugeStatusCarries s gs[i] ((l.drop (8 + 12 * i.val)).take 12)

/-- The octets `l` of UNIT STATUS, from octet 1 on, carry the values of unit `u` (R43, R93, R176, R186; the bits no
field names, log entry 12, and absent named values, log entry 11). -/
def unitStatusCarries (s : State) (u : UnitId) (l : List Octet) : Prop :=
  let r := s.units[u]
  let e := r.est
  let high := e.bind fun x => x.high
  let low := e.bind fun x => x.low
  l.length = 22
  ∧ numAt l 0 1 = u.val + 1 ∧ numAt l 1 1 = r.state.code * 16 + optionalStageCode r.stage * 4
  ∧ numAt l 2 2 = (match r.lastReport with
      | some x => 32 * (1024 + x.place.code * 512 + x.motion.code * 64 + x.trip % 16 * 4 + x.outcome.code)
      | none => 32 * 1023)
  ∧ numAt l 4 1 = (match r.trip with
      | some (.driveTrip n) => 32 + n % 16 * 2
      | x => tripReasonCode x * 32 + 30)
  ∧ numAt l 5 2 = s.store.units[u].startCount % 2 ^ 16 ∧ numAt l 7 1 = r.miss % 256
  ∧ numAt l 8 2 = 32 * (optionalOrderCode (queuedOrder s u) * 256
      + optionalOrderCode (r.inFlight.map fun x => x.order) * 32 + optionalOrderCode r.pendingOrder * 4 + r.minRun.code)
  ∧ numAt l 10 1 = unsignedIn 2 (e.map fun x => x.status.code) * 64
      + unsignedIn 2 ((e.bind fun x => x.riverSource).map RiverSource.code) * 16
      + unsignedIn 2 ((e.bind fun x => x.basinSource).map BasinSource.code) * 4
  ∧ numAt l 11 1 = unsignedIn 3 (high.map fun x => x.status.code) * 32 + unsignedIn 3 (low.map fun x => x.status.code) * 4
  ∧ numAt l 12 2 = unsignedIn 16 (e.bind fun x => x.head)
  ∧ numAt l 14 2 = unsignedIn 16 (high.map fun x => x.q) ∧ numAt l 16 2 = unsignedIn 16 (high.map fun x => x.p)
  ∧ numAt l 18 2 = unsignedIn 16 (low.map fun x => x.q) ∧ numAt l 20 2 = unsignedIn 16 (low.map fun x => x.p)

/-- The codes of the named values are their positions in the lists of R186 and of the runtime state tables (10.1,
R186). -/
def namedValuesAreTheirPositions : Prop :=
  [Mode.setup, .auto, .manual].map Mode.code = List.range 3
  ∧ [SupplyState.awaiting, .current, .silent].map SupplyState.code = List.range 3
  ∧ [PermitSource.default, .permitNode].map PermitSource.code = List.range 2
  ∧ [EnrolState.idle, .offering, .waiting].map EnrolState.code = List.range 3
  ∧ [PointState.unseen, .full, .reduced, .disputed, .degraded, .lost].map PointState.code = List.range 6
  ∧ [LevelStatus.voted, .held, .blind, .unseen, .none].map LevelStatus.code = List.range 5
  ∧ [RiverSource.voted, .held, .fallback].map RiverSource.code = List.range 3
  ∧ [SampleStatus.absent, .fresh, .stale, .malformed, .outOfRange].map SampleStatus.code = List.range 5
  ∧ [Health.unhealthy, .healthy, .unknown].map Health.code = List.range 3
  ∧ [none, some FaultyReason.disagree, some .silent].map faultyCode = List.range 3
  ∧ [none, some PollKind.background, some .demand].map pollKindCode = List.range 3
  ∧ [UnitState.vacant, .unknown, .outOfService, .resting, .ready, .confirming, .warning, .starting, .running, .raising,
      .lowering, .stopping, .tripped, .missing, .localControl].map UnitState.code = List.range 15
  ∧ [none, some Stage.low, some .high].map optionalStageCode = List.range 3
  ∧ [Place.remote, .panel].map Place.code = List.range 2
  ∧ [Motion.stopped, .accelerating, .runLow, .runHigh, .decelerating].map Motion.code = List.range 5
  ∧ [OrderOutcome.none, .taken, .declined].map OrderOutcome.code = List.range 3
  ∧ [none, some (TripReason.driveTrip 0), some .startFailed, some .raiseFailed, some .lowerFailed, some .stopFailed].map
      tripReasonCode = List.range 6
  ∧ [none, some (Order.start .high), some (.restage .high), some .stop, some .halt].map optionalOrderCode = List.range 5
  ∧ [MinRun.idle, .running 0, .elapsed].map MinRun.code = List.range 3
  ∧ [EstStatus.estimated, .noType, .noBasin].map EstStatus.code = List.range 3
  ∧ [BasinSource.voted, .held, .stopLevel].map BasinSource.code = List.range 3
  ∧ [StageStatus.onCurve, .clamped, .beyondCurve, .noCurve, .noHead].map StageStatus.code = List.range 5

/-- The kind and payload of the management request a command brings, if it brings one (R172). -/
def requestOf : Instr → Option (Octet × List Octet)
  | .tableWriteStation p => some (kindTableWrite, p)
  | .tableWriteGauge p => some (kindTableWrite, p)
  | .tableWriteRiver p => some (kindTableWrite, p)
  | .tableWriteBasin p => some (kindTableWrite, p)
  | .tableWriteType p => some (kindTableWrite, p)
  | .tableWriteUnit p => some (kindTableWrite, p)
  | .tableWritePart p => some (kindTableWrite, p)
  | .tableRead p => some (kindTableRead, p)
  | .modeSet p => some (kindModeSet, p)
  | .manualOrderStart p => some (kindManualOrder, p)
  | .manualOrderRestageHigh p => some (kindManualOrder, p)
  | .manualOrderRestageLow p => some (kindManualOrder, p)
  | .manualOrderStop p => some (kindManualOrder, p)
  | .manualOrderHalt p => some (kindManualOrder, p)
  | .unitServiceOut p => some (kindUnitService, p)
  | .unitServiceIn p => some (kindUnitService, p)
  | .tripClear p => some (kindTripClear, p)
  | .stationQuery p => some (kindStationQuery, p)
  | .pointQuery p => some (kindPointQuery, p)
  | .unitQuery p => some (kindUnitQuery, p)
  | .conditionClear p => some (kindConditionClear, p)
  | .counterRead p => some (kindCounterRead, p)
  | .counterReadClear p => some (kindCounterRead, p)
  | .enrolStart p => some (kindEnrolStart, p)
  | .enrolRelease p => some (kindEnrolStart, p)
  | .restart p => some (kindRestart, p)
  | _ => none

/-- The lengths of the parts of a table's records, in their order; none for a table that does not exist (R174, R187,
10.5). -/
def partLengths : Nat → List Nat
  | 1 => [24]
  | 2 => [12]
  | 3 => [6]
  | 4 => [40, 12]
  | 5 => [40, 40, 30]
  | 6 => [10]
  | _ => []

/-- Whether a table has a record of a number (R174). -/
def hasRecord (table record : Nat) : Bool :=
  match table with
  | 1 => decide (record = 0)
  | 2 => decide (record ≤ 15)
  | 3 => decide (record = 0)
  | 4 => decide (1 ≤ record ∧ record ≤ 4)
  | 5 => decide (1 ≤ record ∧ record ≤ 4)
  | 6 => decide (1 ≤ record ∧ record ≤ 12)
  | _ => false

/-- Whether octets are as long as a part of a table's record; no octets are, of a part that the table does not have
(R172, R187). -/
def isPart (table part : Nat) (length : Nat) : Bool :=
  decide (1 ≤ part) && decide ((partLengths table)[part - 1]? = some length)

/-- Whether the octets of a part leave a field of named values with none of them: in use of a gauge or type, enrolled
and in service of a unit (R172; which fields are checked here, log entry 20). -/
def misnames (table part : Nat) (octets : List Octet) : Bool :=
  decide (part = 1)
  && ((decide (table = 2 ∨ table = 5 ∨ table = 6) && decide (1 < numAt octets 0 1))
    || (decide (table = 6) && decide (1 < numAt octets 7 1)))

/-- The refusal of a request for its form or for what it names, before the state of what it names is looked at: RANGE
for a payload of a wrong length or a value that is none of its field's, UNKNOWN for a table, record, point or unit
that does not exist, and MODE for a manual order outside MANUAL (R142, R145, R172, R174, R176, R179, R181, R185, R187;
a TABLE WRITE or READ without a table number is refused with RANGE by the model's choice, log entry 19). The record
number of a TABLE WRITE is looked at by the rule that takes the record. -/
def refusalOf (kind : Octet) (p : List Octet) (s : State) : Option Reason :=
  let unit := fun n : Octet => if n.toNat < 1 ∨ 12 < n.toNat then some Reason.unknown else none
  let named := fun (n : Octet) (most : Nat) => if most < n.toNat then some Reason.range else none
  if kind = kindTableWrite then
    match p with
    | [] => some .range
    | table :: rest =>
      if partLengths table.toNat = [] then some .unknown
      else
        match rest with
        | _ :: part :: octets =>
          if isPart table.toNat part.toNat octets.length = true ∧ misnames table.toNat part.toNat octets = false then
            none
          else some .range
        | _ => some .range
  else if kind = kindTableRead then
    match p with
    | [] => some .range
    | table :: rest =>
      if partLengths table.toNat = [] then some .unknown
      else
        match rest with
        | [record, part] =>
          if part.toNat < 1 ∨ (partLengths table.toNat).length < part.toNat then some .range
          else if hasRecord table.toNat record.toNat = true then none else some .unknown
        | _ => some .range
  else if kind = kindManualOrder then
    match p with
    | [n, o, x] =>
      if s.station.mode ≠ .manual then some .mode
      else
        match unit n with
        | some r => some r
        | none =>
          if o.toNat = 3 ∨ o.toNat = 4 then none
          else if (o.toNat = 1 ∨ o.toNat = 2) ∧ (x.toNat = 1 ∨ x.toNat = 2) then none else some .range
    | _ => some .range
  else if kind = kindUnitService then
    match p with
    | [n, a] => if 1 < a.toNat then some .range else unit n
    | _ => some .range
  else if kind = kindStationQuery ∨ kind = kindRestart then (if p = [] then none else some .range)
  else
    match p with
    | [n] =>
      if kind = kindModeSet then named n 2
      else if kind = kindTripClear ∨ kind = kindUnitQuery then unit n
      else if kind = kindPointQuery then (if n.toNat < 1 ∨ 5 < n.toNat then some .unknown else none)
      else if kind = kindConditionClear then (if n.toNat < 1 then some .range else named n 13)
      else named n 1
    | _ => some .range

/-- The steps of the board, which come about whether or not the controller is ready (R169, R170). -/
def ofBoard : Instr → Bool
  | .resetHoldExpiry => true
  | .resetInput _ => true
  | .powerOn _ => true
  | .powerLoss => true
  | .resetInputRelease => true
  | _ => false

/-! ## The laws of every reachable state -/

/-- The orders that wait: at most one in each unit's slot (R86, R165), none while the unit has an order in flight, and
a pending one only behind an order in flight or on the line (R86, R165); at most one entry whose transmission has
begun, and with power only while the line carries an order (R165, R166); and a dropped one is on the line (R67, log
entry 16). -/
def OrdersLaw (s : State) : Prop :=
  (∀ u : UnitId, s.ring.orders.countP (holdsSlot u) ≤ 1)
  ∧ (∀ u : UnitId, s.units[u].inFlight.isSome = true → queuedEntry s u = none)
  ∧ (∀ u : UnitId, s.units[u].pendingOrder.isSome = true →
      s.units[u].inFlight.isSome = true ∨ ∃ e ∈ s.ring.orders, holdsSlot u e = true ∧ e.sending = true)
  ∧ s.ring.orders.countP OrderEntry.sending ≤ 1
  ∧ (∀ e ∈ s.ring.orders, e.dropped = true → e.sending = true)
  ∧ ∀ e ∈ s.ring.orders, e.sending = true → s.board.powered = true → ∃ x, s.ring.line = .sending .order x

/-- The queues of the Ring Port keep within their places (R160, R165), a place kept for every request that
has been delivered and not answered (R164). -/
def QueuesBounded (s : State) : Prop :=
  s.ring.rx.length ≤ 8 ∧ s.ring.forward.length ≤ 8 ∧ s.ring.polls.length ≤ 4
  ∧ s.ring.replies.length + reservedReplies s.ring ≤ 4
  ∧ OrdersLaw s ∧ s.ring.orders.length ≤ 16

/-- The start stack holds exactly the units in STARTING, RUNNING, RAISING or LOWERING, each once (R94). -/
def StackLaw (s : State) : Prop :=
  s.engine.stack.Nodup ∧ ∀ u : UnitId, u ∈ s.engine.stack ↔ onStack s.units[u].state = true

/-- The start allowance is held by exactly the unit in CONFIRMING, WARNING or STARTING, for START, or in
RAISING, for RAISE (R95). -/
def AllowanceLaw (s : State) : Prop :=
  ∀ (u : UnitId) (p : Purpose), s.engine.allowance = .held u p ↔ keepsAllowance p s.units[u].state = true

/-- The candidate record is that of the unit in CONFIRMING or WARNING, at that unit's stage (R97). -/
def CandidateLaw (s : State) : Prop :=
  (∀ c : Candidate, s.engine.candidate = some c →
    candidateState s.units[c.unit].state = true ∧ s.units[c.unit].stage = some c.stage)
  ∧ ∀ u : UnitId, candidateState s.units[u].state = true → ∃ c, s.engine.candidate = some c ∧ c.unit = u

/-- What Station Control holds of the units is as the units stand: the idle state (R99, R150), UNIT TRIPPED
(R71) and UNIT SILENT (R83). -/
def ReportsLaw (s : State) : Prop :=
  s.station.idle = isIdle s
  ∧ isPending .unitTripped s = allUnits.any (fun u => decide (s.units[u].state = .tripped))
  ∧ isPending .unitSilent s = allUnits.any (fun u => decide (s.units[u].state = .missing))

/-- The four laws of dispatch together. -/
def DispatchLaws (s : State) : Prop := StackLaw s ∧ AllowanceLaw s ∧ CandidateLaw s ∧ ReportsLaw s

/-- The horn line is active exactly while a warning period runs, and never while the controller is without
power, in reset or held in reset; a warning period is that of the one candidate, in WARNING (R147). -/
def HornLaw (s : State) : Prop :=
  s.horn.line = s.horn.warningTimer.isSome ∧ (s.horn.line = true → s.ready = true)
  ∧ (s.horn.line = true → ∃ c, s.engine.candidate = some c ∧ s.units[c.unit].state = .warning)

/-- Every unit holds the estimate record that the stored records and the published levels give (R28, R37 to
R39). -/
def EstimatesCurrent (s : State) : Prop := ∀ u : UnitId, s.units[u].est = estimateFor s u

/-- What a basin holds is as its record and its point as last published have it. A basin in use has a record within the
ranges and the order of R45; its level status is that of the point (R48); its step is one of the record's, with the
target of that step (R53): 0 while UNSEEN, the blind step while BLIND, and while VOTED one whose band under hysteresis
holds the level (R49 to R52); its override asks for a record that allows it and ends with the level below its band
(R54); and its flags are those of its status and its level (R48, R55, R56). A basin not in use has level status NONE,
step 0 and target 0 and no flag set (R47, R48, R53). -/
def TargetLaw (s : State) : Prop :=
  ∀ b : BasinId,
    let r := s.store.basins[b]
    let p := s.points[basinPoint b].published
    let v := s.basins[b]
    if r.inUse = true then
      basinRanges r ∧ basinOrdered r ∧ v.step ≤ r.stepCount ∧ v.target = targetOf r v.step
      ∧ v.status = (match p.state, p.holdExpired with
          | .unseen, false => .unseen
          | .lost, false => .held
          | .unseen, true => .blind
          | .lost, true => .blind
          | _, _ => .voted)
      ∧ v.blind = decide (v.status = .blind)
      ∧ (v.status = .unseen → v.step = 0) ∧ (v.status = .blind → v.step = r.blindStep)
      ∧ (v.override = true → r.overrideAllowed = 1 ∧ (v.status = .voted ∨ v.status = .held))
      ∧ (match p.level with
          | some l =>
            (v.status = .voted →
              (v.step ≠ 0 → threshold r v.step - r.hysteresis ≤ l)
              ∧ (v.step < r.stepCount → l < threshold r (v.step + 1))
              ∧ (v.override = true → r.criticalLevel - r.hysteresis ≤ l)
              ∧ (r.overrideAllowed = 1 → r.criticalLevel ≤ l → v.override = true))
            ∧ v.atCritical = (decide (v.status = .voted ∨ v.status = .held) && decide (r.criticalLevel ≤ l))
            ∧ v.dry = (decide (v.status = .voted ∨ v.status = .held) && decide (l ≤ r.stopLevel))
            ∧ v.atWake = (decide (v.status = .voted) && decide (r.wakeLevel ≤ l))
          | none => v.atCritical = false ∧ v.dry = false ∧ v.atWake = false)
    else v = ⟨.none, 0, 0, false, false, false, false, false⟩

/-- What each point holds is what was last published for it, a point not in use is UNSEEN with its timer idle, and the
river level in use is the river point's as published: its voted level, the level it holds while LOST until its hold
runs out, and the fallback stage otherwise (R4, R15, R16, R23). -/
def PointsLaw (s : State) : Prop :=
  (∀ p : PointId,
    s.points[p].published = s.points[p].cur
    ∧ (pointInUse s p = false → s.points[p].cur = .unseen ∧ s.points[p].lostTimer = none))
  ∧ s.riverUse = (match s.points[riverPoint].published with
      | ⟨.unseen, _, _⟩ => ⟨s.store.river.fallback, .fallback⟩
      | ⟨.lost, some l, false⟩ => ⟨l, .held⟩
      | ⟨.lost, _, _⟩ => ⟨s.store.river.fallback, .fallback⟩
      | ⟨_, some l, _⟩ => ⟨l, .voted⟩
      | ⟨_, none, _⟩ => ⟨s.store.river.fallback, .fallback⟩)

/-- What each point in use holds is the outcome of the vote over its usable gauges, its lost timer idle, and with none
it is UNSEEN without a level or LOST holding one (R11, R14). -/
def VoteLaw (s : State) : Prop :=
  ∀ p : PointId, pointInUse s p = true →
    match voteOf (pointBand s p) ((usableAt s p).map Prod.snd) with
    | some (st, l) => s.points[p].cur = ⟨st, some l, false⟩ ∧ s.points[p].lostTimer = none
    | none =>
      (s.points[p].cur.state = .unseen ∧ s.points[p].cur.level = none)
      ∨ (s.points[p].cur.state = .lost ∧ s.points[p].cur.level.isSome = true)

/-- The conditions that follow the basins, the points and the two flags of dispatch are as their owners stand
(R14, R15, R55, R107, R177). -/
def ConditionsLaw (s : State) : Prop :=
  isPending .basinCritical s = anyCritical s
  ∧ isPending .pointLost s = anyLost s
  ∧ isPending .pointDisputed s = anyDisputed s
  ∧ isPending .budgetUnmet s = s.engine.budgetUnmet
  ∧ isPending .permitUnmet s = s.engine.permitUnmet

/-- A unit's timers run only in the states that run them, and it has a trip reason exactly while TRIPPED (R76,
R78 to R82). -/
def TimersLaw (s : State) : Prop :=
  ∀ u : UnitId,
    (s.units[u].restTimer.isSome = true → s.units[u].state = .resting)
    ∧ (s.units[u].confirmTimer.isSome = true →
        s.units[u].state = .starting ∨ s.units[u].state = .raising ∨ s.units[u].state = .lowering
        ∨ s.units[u].state = .stopping)
    ∧ (s.units[u].minRun ≠ .idle → keepsMinRun s.units[u].state = true)
    ∧ (s.units[u].trip.isSome = true ↔ s.units[u].state = .tripped)

/-- The Limits Unit's values are formed from one another and shown by their conditions (R125, R126, R136,
R138). -/
def LimitsLaw (s : State) : Prop :=
  s.limits.budget = min s.store.station.ceiling s.limits.supplyLimit
  ∧ s.limits.cap = (if s.limits.hold = true then 0 else s.limits.permit)
  ∧ (s.limits.supplyState ≠ .current → s.limits.supplyLimit = s.store.station.fallbackBudget)
  ∧ (s.limits.supplyState = .silent ↔ s.limits.silenceTimer = none)
  ∧ (s.limits.supplyState = .silent ↔ isPending .supplySilent s = true)
  ∧ (s.limits.hold = true ↔ isPending .holdActive s = true)

end Sys2Proof.Machine
end

