-- ==== Sys2Proof/Certificates/Slice0/Obligations.lean ====
section
/-! DEFINITION. The statements about the Igmor 7312 model, for the provers: each is a proposition over the
meanings of the commands, with the rules of the manual it speaks of in its docstring. The words they share
stand in Sys2Proof/Safety.lean. -/

open Sys2Proof Sys2Proof.Machine

/-! ## The machine as a whole -/

/-- A step takes the command at the front of the queue and runs it on the machine with the queue's rest. -/
def Obligations.StepTakesFrontCommand : Prop :=
  ∀ (c : Instr) (l : List Instr) (s : State), step { s with pending := c :: l } = exec c { s with pending := l }

/-- On an empty queue a ready controller lets one second pass: every sample age that is present rises by 1, up
to 65535, and nothing else changes (1.2, R8; that an empty queue is a second is the model's choice, log entry
4). -/
def Obligations.EmptyQueueAgesSamples : Prop :=
  ∀ s : State, s.pending = [] → s.ready = true →
    ∃ t, step s = .next t
      ∧ (∀ g : GaugeId, t.gauges[g] = { s.gauges[g] with age := s.gauges[g].age.map fun n => min 65535 (n + 1) })
      ∧ unchangedBut [.gauges] s t

/-- While the controller is without power, in reset or held in reset, no command but those of the board has an
effect (R169, R170; the model's choice, log entry 3). -/
def Obligations.NotReadyTakesNothing : Prop :=
  ∀ (c : Instr) (s : State), c.wf = true → ofBoard c = false → s.ready = false → exec c s = .next s

/-- Every well-formed command completes, the queue left as it was behind it; no command is refused; and of the
ill-formed ones only an expiry that names no unit, gauge or point of the station stops the machine, with its fault,
every other completing too (00_scope, Station objects; that such an expiry faults, and that other ill-formed
commands complete, is the model's choice, log entry 26). -/
def Obligations.WellFormedCommandsComplete : Prop :=
  (∀ (c : Instr) (l : List Instr) (s : State), c.wf = true ∨ namesNothing c = false →
    ∃ t, step { s with pending := c :: l } = .next t ∧ t.pending = l)
  ∧ (∀ (c : Instr) (s : State) (r : Refusal), exec c s ≠ .refused r)
  ∧ (∀ (n : Nat) (s : State), isUnitNumber n = false →
      exec (.unitPollTimeout n) s = .fault (.noSuchUnit n) ∧ exec (.orderReplyTimeout n) s = .fault (.noSuchUnit n)
      ∧ exec (.startConfirmExpiry n) s = .fault (.noSuchUnit n)
      ∧ exec (.restageConfirmExpiry n) s = .fault (.noSuchUnit n)
      ∧ exec (.stopConfirmExpiry n) s = .fault (.noSuchUnit n) ∧ exec (.restTimerExpiry n) s = .fault (.noSuchUnit n)
      ∧ exec (.minimumRunExpiry n) s = .fault (.noSuchUnit n))
  ∧ (∀ (n : Nat) (s : State), isGaugeNumber n = false →
      exec (.staleTimerExpiry n) s = .fault (.noSuchGauge n)
      ∧ exec (.backgroundPollTimeout n) s = .fault (.noSuchGauge n)
      ∧ exec (.demandPollTimeout n) s = .fault (.noSuchGauge n))
  ∧ ∀ (n : Nat) (s : State), isPointNumber n = false → exec (.lostTimerExpiry n) s = .fault (.noSuchPoint n)

/-! ## The laws that every step keeps -/

/-- The receive, forward, order, poll and reply queues keep within their 8, 8, 16, 4 and 4 places, with a place of the
reply queue kept for every delivered request; and the order queue holds at most one order in each unit's slot, none
beside the unit's order in flight, and at most one entry on the line (R86, R160, R164, R165; that in a full order queue
an enrolment telegram that waits gives its place up is the model's choice, log entry 15, as a dropped order on the line
is, log entry 16). -/
def Obligations.QueuesStayBounded : Prop :=
  ∀ s : State, QueuesBounded s → ∀ t : State, step s = .next t → QueuesBounded t

/-- The start stack, the start allowance, the candidate record and what Station Control holds of the units stay
as the unit states have them (R94, R95, R97, R99, R71, R83). -/
def Obligations.DispatchLawsAreKept : Prop :=
  ∀ s : State, DispatchLaws s → ∀ t : State, step s = .next t → DispatchLaws t

/-- The horn line is active exactly while a warning period runs, and is inactive while the reset input is
asserted, while a reset is held and while the module has no power; and the period is that of the one candidate
(R147). -/
def Obligations.HornLineFollowsTheWarningPeriod : Prop :=
  ∀ s : State, DispatchLaws s → HornLaw s → ∀ t : State, step s = .next t → HornLaw t

/-- Every unit's estimate record stays the one that the stored records and the published levels give, so no
command leaves a stale estimate (R28, R37, R38, R39, R42). -/
def Obligations.EstimatesStayCurrent : Prop :=
  ∀ s : State, EstimatesCurrent s → ∀ t : State, step s = .next t → EstimatesCurrent t

/-- A basin in use keeps what its record and its point as last published give it: the level status of R48, a step of the
record that its level allows under hysteresis, the blind step or 0, the target of that step, an override that the
record and the level allow, and the blind, at-critical, dry and at-wake flags; one not in use keeps status NONE, target
0 and no flag. Along the steps of a record that a write may store the targets never descend, so a rising step never
lowers the target (R48 to R56). -/
def Obligations.TargetFollowsTheStep : Prop :=
  (∀ s : State, TargetLaw s → ∀ t : State, step s = .next t → TargetLaw t)
  ∧ ∀ (r : BasinRec) (j k : Nat), basinRanges r → basinOrdered r → j ≤ k → k ≤ r.stepCount →
      targetOf r j ≤ targetOf r k

/-- The budget and the cap stay formed from their parts, and the supply state and the hold stay shown by their
conditions and the silence timer (R125, R126, R136, R138). -/
def Obligations.LimitsLawIsKept : Prop :=
  ∀ s : State, LimitsLaw s → ∀ t : State, step s = .next t → LimitsLaw t

/-- What each point holds stays published, the river level in use stays that of the river point as published, voted,
held or the fallback stage, and BASIN CRITICAL, POINT LOST, POINT DISPUTED, BUDGET UNMET and PERMIT UNMET stay pending
exactly while their owners' states hold. Each point in use stays the outcome of the vote over its usable gauges (R11,
R14, R15, R16, R55, R107, R177). -/
def Obligations.ConditionsFollowTheirOwners : Prop :=
  (∀ s : State, PointsLaw s → ConditionsLaw s → ∀ t : State, step s = .next t → PointsLaw t ∧ ConditionsLaw t)
  ∧ ∀ s : State, VoteLaw s → ∀ t : State, step s = .next t → VoteLaw t

/-- A unit's rest, confirm and minimum run timers stay confined to the states that run them, and its trip reason
to TRIPPED (R76, R78 to R82). -/
def Obligations.UnitTimersFollowTheState : Prop :=
  ∀ s : State, TimersLaw s → ∀ t : State, step s = .next t → TimersLaw t

/-- The machine right after the reset of first power obeys every law (R23, R92, R122, R139, R156, R171, R182; that POINT
LOST is pending there is deduced, log entry 39). -/
def Obligations.LawsHoldAtReset : Prop :=
  QueuesBounded State.reset ∧ DispatchLaws State.reset ∧ HornLaw State.reset ∧ EstimatesCurrent State.reset
  ∧ TargetLaw State.reset ∧ LimitsLaw State.reset ∧ PointsLaw State.reset ∧ ConditionsLaw State.reset
  ∧ TimersLaw State.reset ∧ VoteLaw State.reset

/-! ## What no command may do -/

/-- Whatever command brings a unit into CONFIRMING, STARTING or RAISING leaves the committed power within the
budget in force; and a unit brought into STARTING or RAISING leaves the permit-counted discharge within the cap,
or, in a basin in override, the basin's committed delivery within its emergency allowance (R102, R104, R117). -/
def Obligations.NothingStartsBeyondItsLimits : Prop :=
  ∀ (c : Instr) (u : UnitId) (s : State), DispatchLaws s → EstimatesCurrent s → ∀ t : State, exec c s = .next t →
    t.units[u].state ≠ s.units[u].state →
    ((t.units[u].state = .confirming ∨ t.units[u].state = .starting ∨ t.units[u].state = .raising) →
      committedPower t ≤ t.limits.budget)
    ∧ ((t.units[u].state = .starting ∨ t.units[u].state = .raising) →
        if t.basins[basinOfUnit t u].override = true then
          committedDelivery t (basinOfUnit t u) ≤ t.store.basins[basinOfUnit t u].emergency
        else permitDischarge t ≤ t.limits.cap)

/-- Every management request that is taken is answered once, by a reply that opens with the request's kind and
is ACCEPTED, REFUSED or a status, with nothing but ATTENTIONs after it; and one for whose answer there is no
room is not taken (R172, R186; the last clause is the model's choice, log entry 7). -/
def Obligations.RequestsAreAnsweredOnce : Prop :=
  ∀ (c : Instr) (kind : Octet) (p : List Octet) (s : State), requestOf c = some (kind, p) → s.ready = true →
    if replyRoom (takeDelivered (sameTelegram kind addrSupervisor p) s).ring = true then
      ∃ t, exec c s = .next t
        ∧ t.ring.delivered = s.ring.delivered.eraseP (sameTelegram kind addrSupervisor p)
        ∧ ∃ (reply : Octet) (body : List Octet), answeredWith kind reply body s t
            ∧ reply ∈ [kindAccepted, kindRefused, kindTableContent, kindStationStatus, kindPointStatus,
                kindUnitStatus, kindCounterStatus]
    else exec c s = .next s

/-- A request whose form or whose object is wrong is refused: RANGE for a payload of another length, or a value that is
none of its field's, among them another mode, action, clear option or condition code and a part that the table does not
have; UNKNOWN for a table, a record to read, a point or a unit that does not exist; and MODE, before both, for a manual
order outside MANUAL. A refused request changes nothing but the answer it is given, except that a refused TABLE WRITE
may empty the write assembly (R142, R145, R172, R174, R176, R179, R181, R187; that a TABLE WRITE or READ without a table
number is refused with RANGE is the model's choice, log entry 19, and which named values are looked at before the rule
of the record is deduced, log entry 20). -/
def Obligations.RefusalsChangeNothing : Prop :=
  (∀ (c : Instr) (kind : Octet) (p : List Octet) (r : Reason) (s : State), requestOf c = some (kind, p) →
    takes kind p s → refusalOf kind p s = some r →
    ∃ t, exec c s = .next t ∧ isRefused kind r s t ∧ unchangedBut answering s t)
  ∧ ∀ (c : Instr) (kind : Octet) (p : List Octet) (r : Reason) (s : State), requestOf c = some (kind, p) →
      takes kind p s → ∀ t : State, exec c s = .next t → isRefused kind r s t →
      (kind ≠ kindTableWrite → unchangedBut answering s t)
      ∧ (kind = kindTableWrite → unchangedBut (.assembly :: answering) s t
          ∧ (t.station.assembly = s.station.assembly ∨ t.station.assembly = none))

/-- A UNIT ORDER of another node to an enrolled unit's drive is blocked at classification: neither forwarded nor
delivered, counted, and FOREIGN ORDER latched, with its ATTENTION deposited or counted as dropped. One to a drive that
is not enrolled, to address 32 or to 127 is forwarded, one of the controller's own that comes back is discarded, and
no command whatever puts a foreign UNIT ORDER to an enrolled unit's drive into the forward queue (R163, R180; the room
of an ATTENTION, log entry 7). -/
def Obligations.ForeignUnitOrdersNeverPass : Prop :=
  (∀ (e : RxEntry) (l : List RxEntry) (x : Telegram) (u : UnitId) (s : State), s.ready = true →
    s.ring.rx = e :: l → e.telegram = some x → x.kind = kindUnitOrder → x.src ≠ addrController →
    x.dest = driveAddress u → s.store.units[u].enrolled = true →
    ∃ t, exec .classification s = .next t ∧ t.ring.rx = l ∧ isPending .foreignOrder t = true
      ∧ (∃ d, t.station.counters = { s.station.counters with
            blockedOrders := min 65535 (s.station.counters.blockedOrders + 1), droppedAttentions := d })
      ∧ attentionSent .foreignOrder s t
      ∧ restOfConditions [.foreignOrder] s t ∧ unchangedBut (.received :: latching) s t)
  ∧ (∀ (e : RxEntry) (l : List RxEntry) (x : Telegram) (s : State), s.ready = true →
      s.ring.rx = e :: l → e.telegram = some x → x.kind = kindUnitOrder →
      if x.src = addrController then
        ∃ t, exec .classification s = .next t ∧ t.ring.rx = l ∧ unchangedBut [.received] s t
      else
        ((∃ u : UnitId, x.dest = driveAddress u ∧ s.store.units[u].enrolled = false)
            ∨ x.dest = addrUnenrolled ∨ x.dest = addrBroadcast) →
        s.ring.forward.length < 8 →
        ∃ t, exec .classification s = .next t ∧ t.ring.rx = l ∧ t.ring.forward = s.ring.forward ++ [x]
          ∧ unchangedBut [.received, .forwarded, .line] s t)
  ∧ ∀ (c : Instr) (x : Telegram) (u : UnitId) (s : State), x.kind = kindUnitOrder → x.src ≠ addrController →
      x.dest = driveAddress u → s.store.units[u].enrolled = true → ∀ t : State, exec c s = .next t →
      t.ring.forward.count x ≤ s.ring.forward.count x

/-! ## Encodings -/

/-- A record as a table write forms it from the octets it carries, in use or not, is read back unchanged from the
octets a table read carries it in, and with the slots beyond a basin's or type's counts written 0 those are the octets
written; each field lies in the octets that 10.5 gives it, signed where it says so. A slot beyond the counts is formed
as 0 whatever is written there (deduced, log entry 31). A unit record is carried with its fields in their places, the
identity where it has one (10.5, R1, R26, R45, R60, R174). -/
def Obligations.TableRecordsReadBack : Prop :=
  (∀ (l : List Octet) (r : StationRec), l.length = 24 → stationOf l = some r → stationLaidOut l r)
  ∧ (∀ l : List Octet, l.length = 24 → ((stationOf l).isSome = true ↔ numAt l 0 1 ≤ 2))
  ∧ (∀ l : List Octet, l.length = 12 → gaugeLaidOut l (gaugeOf l))
  ∧ (∀ l : List Octet, l.length = 6 → riverLaidOut l (riverOf l))
  ∧ (∀ l : List Octet, l.length = 52 → basinLaidOut l (basinOf l))
  ∧ (∀ l : List Octet, l.length = 110 → typeLaidOut l (typeOf l))
  ∧ (∀ r : StationRec, stationRanges r → stationOf (stationOctets r) = some r)
  ∧ (∀ (l : List Octet) (r : StationRec), l.length = 24 → stationOf l = some r →
      stationOf (stationOctets r) = some r ∧ stationOctets r = l)
  ∧ (∀ l : List Octet, l.length = 12 →
      gaugeOf (gaugeOctets (gaugeOf l)) = gaugeOf l ∧ (numAt l 0 1 ≤ 1 → gaugeOctets (gaugeOf l) = l))
  ∧ (∀ l : List Octet, l.length = 6 → riverOf (riverOctets (riverOf l)) = riverOf l ∧ riverOctets (riverOf l) = l)
  ∧ (∀ l : List Octet, l.length = 52 →
      basinOf (basinOctets (basinOf l)) = basinOf l
      ∧ (∀ i : Fin 6, numAt l 21 1 ≤ i.val → (basinOf l).steps[i] = ⟨0, 0⟩)
      ∧ (numAt l 0 1 ≤ 1 → (∀ i, 22 + 5 * numAt l 21 1 ≤ i → i < 52 → l[i]? = some 0#8) →
          basinOctets (basinOf l) = l))
  ∧ (∀ l : List Octet, l.length = 110 →
      typeOf (typeOctets (typeOf l)) = typeOf l
      ∧ (∀ i : Fin 8, numAt l 2 1 ≤ i.val → (typeOf l).high[i] = ⟨0, 0, 0⟩)
      ∧ (∀ i : Fin 8, numAt l 3 1 ≤ i.val → (typeOf l).low[i] = ⟨0, 0, 0⟩)
      ∧ (numAt l 0 1 ≤ 1 → (∀ i, 14 + 6 * numAt l 2 1 ≤ i → i < 62 → l[i]? = some 0#8) →
          (∀ i, 62 + 6 * numAt l 3 1 ≤ i → i < 110 → l[i]? = some 0#8) → typeOctets (typeOf l) = l))
  ∧ (∀ r : GaugeRec, gaugeInRange r = true → gaugeOf (gaugeOctets r) = r)
  ∧ (∀ r : RiverRec, checkRiver r = none → riverOf (riverOctets r) = r)
  ∧ (∀ r : BasinRec, basinInRange r = true → (∀ i : Fin 6, r.stepCount ≤ i.val → r.steps[i] = ⟨0, 0⟩) →
      basinOf (basinOctets r) = r)
  ∧ (∀ r : TypeRec, typeInRange r = true → (∀ i : Fin 8, r.highCount ≤ i.val → r.high[i] = ⟨0, 0, 0⟩) →
      (∀ i : Fin 8, r.lowCount ≤ i.val → r.low[i] = ⟨0, 0, 0⟩) → typeOf (typeOctets r) = r)
  ∧ ∀ r : UnitRec, r.startCount ≤ 65535 →
      (unitOctets r).length = 10 ∧ numAt (unitOctets r) 0 1 = (if r.enrolled = true then 1 else 0)
      ∧ (∀ i, r.identity = some i → numAt (unitOctets r) 1 4 = i.toNat)
      ∧ numAt (unitOctets r) 7 1 = (if r.inService = true then 1 else 0)
      ∧ unitWriteOf (unitOctets r) = ⟨r.type.val + 1, r.basin.val + 1, r.startCount⟩

/-- Any telegram sent as the controller frames it, start octet, header, payload and check, each octet with its odd
parity bit, is received as one unflagged entry that carries it whole, the collection over; with a wrong parity bit
after the start octet the entry carries OCTET PARITY alone, with a wrong check it carries CHECK too, and a telegram
that completes with 8 entries in the receive queue is lost, flagged or not: RECEIVE OVERRUNS rises by 1, RING FAULT is
pending, its ATTENTION sent or dropped, and nothing enters. Octets other than a D5h of right parity begin no
collection. On the line an octet is eleven bits: start, eight data bits with the least significant first, parity,
stop. The check is the remainder of x^16 + x^12 + x^5 + 1 from a register of all ones, each octet entering most
significant bit first, over the octets from the destination to the payload's last: 29B1h over 31h to 39h (R158, R159,
R160, R168; that the start bit is 0 and the stop bit 1 is presumed, log entry 43, and the room of an ATTENTION is log
entry 7). -/
def Obligations.FramedTelegramsAreReceivedWhole : Prop :=
  (∀ (x : Telegram) (s : State), x.payload.length ≤ 48 → s.ready = true → s.board.relayClosed = false →
    s.ring.collecting = none → s.ring.rx.length < 8 →
    ∃ t, exec (.receiveTelegram ((frame x).map sent)) s = .next t
      ∧ (∃ e : RxEntry, t.ring.rx = s.ring.rx ++ [e] ∧ e.telegram = some x) ∧ unchangedBut [.received] s t)
  ∧ (∀ (x : Telegram) (first : RxOctet) (rest : List RxOctet) (s : State), x.payload.length ≤ 48 → s.ready = true →
      s.board.relayClosed = false → s.ring.collecting = none → s.ring.rx.length < 8 →
      (first :: rest).map RxOctet.value = frame x → parityOk first = true →
      ∃ t, exec (.receiveTelegram (first :: rest)) s = .next t
        ∧ t.ring.rx = s.ring.rx ++ [⟨[x.dest, x.src, x.kind, BitVec.ofNat 8 x.payload.length], x.payload,
            ⟨rest.any fun o => !parityOk o, false, false, false⟩⟩]
        ∧ unchangedBut [.received] s t)
  ∧ (∀ (x : Telegram) (check : List Octet) (first : RxOctet) (rest : List RxOctet) (s : State), x.payload.length ≤ 48 →
      s.ready = true → s.board.relayClosed = false → s.ring.collecting = none → check.length = 2 →
      (first :: rest).map RxOctet.value = (frame x).take (x.payload.length + 5) ++ check → parityOk first = true →
      ∃ t, exec (.receiveTelegram (first :: rest)) s = .next t
        ∧ if s.ring.rx.length < 8 then
            t.ring.rx = s.ring.rx ++ [⟨[x.dest, x.src, x.kind, BitVec.ofNat 8 x.payload.length], x.payload,
              ⟨rest.any fun o => !parityOk o, false, false,
                decide (check ≠ (frame x).drop (x.payload.length + 5))⟩⟩]
            ∧ unchangedBut [.received] s t
          else
            isPending .ringFault t = true ∧ restOfConditions [.ringFault] s t ∧ attentionSent .ringFault s t
            ∧ (∃ d, t.station.counters = { s.station.counters with
                  receiveOverruns := min 65535 (s.station.counters.receiveOverruns + 1), droppedAttentions := d })
            ∧ unchangedBut latching s t)
  ∧ (∀ (l : List RxOctet) (s : State), s.ready = true → s.board.relayClosed = false → s.ring.collecting = none →
      (∀ o ∈ l, o.value ≠ 0xD5#8 ∨ parityOk o = false) → exec (.receiveTelegram l) s = .next s)
  ∧ (∀ o : Octet, (dataBits o ++ [(sent o).parityBit]).count true % 2 = 1 ∧ (sent o).value = o)
  ∧ (∀ o : RxOctet, parityOk o = true ↔ (dataBits o.value ++ [o.parityBit]).count true % 2 = 1)
  ∧ (∀ o : RxOctet, lineBits o
      = [false, o.value.getLsbD 0, o.value.getLsbD 1, o.value.getLsbD 2, o.value.getLsbD 3, o.value.getLsbD 4,
          o.value.getLsbD 5, o.value.getLsbD 6, o.value.getLsbD 7, o.parityBit, true])
  ∧ (∀ (l : List Bool) (o : RxOctet), octetOfBits l = some o ↔ l = lineBits o)
  ∧ check [0x31#8, 0x32#8, 0x33#8, 0x34#8, 0x35#8, 0x36#8, 0x37#8, 0x38#8, 0x39#8] = 0x29B1#16
  ∧ check [] = BitVec.allOnes 16
  ∧ (∀ (l : List Octet) (o : Octet), check (l ++ [o]) = (dataBits o).reverse.foldl dividedBy (check l))
  ∧ (∀ x : Telegram, frame x
      = (let octets := x.dest :: x.src :: x.kind :: BitVec.ofNat 8 x.payload.length :: x.payload
         0xD5#8 :: (octets ++ [(check octets).extractLsb' 8 8, (check octets).extractLsb' 0 8])))
  ∧ ∀ x : Telegram, (telegramBits x).length = 11 * (x.payload.length + 7)

/-! ## The Ring Port -/

/-- A silence of the upstream line ends the collection in progress: the telegram joins the receive queue with its
octets received and every fault that applies: LENGTH for a length octet above 48, its payload dropped, and TRUNCATED
where its last check octet has not been reached; with the queue full it is lost, counted, and RING FAULT latched and
announced. The octets of a LENGTH telegram are taken and counted, not kept (R159, R160; that a LENGTH telegram is
complete once the octets its length octet announces have been taken is the model's reading, log entry 29, and the room
of an ATTENTION is log entry 7). -/
def Obligations.SilenceEndsTheCollection : Prop :=
  (∀ (c : Collector) (s : State), s.ready = true → s.board.relayClosed = false → s.ring.collecting = some c →
    s.ring.rx.length < 8 →
    ∃ t, exec .receiveSilence s = .next t
      ∧ (∃ e : RxEntry, t.ring.rx = s.ring.rx ++ [e] ∧ e.header = c.octets.take 4
          ∧ e.flags.parity = c.parityBad ∧ e.flags.check = false
          ∧ match c.octets[3]? with
            | none => e.flags.length = false ∧ e.flags.truncated = true ∧ e.payload = []
            | some n =>
              e.flags.length = decide (48 < n.toNat)
              ∧ e.flags.truncated = decide (c.octets.length + c.unkept < n.toNat + 6)
              ∧ e.payload = if 48 < n.toNat then [] else (c.octets.drop 4).take n.toNat)
      ∧ t.ring.collecting = none ∧ unchangedBut [.collection, .received] s t)
  ∧ (∀ (c : Collector) (s : State), s.ready = true → s.board.relayClosed = false → s.ring.collecting = some c →
      8 ≤ s.ring.rx.length →
      ∃ t, exec .receiveSilence s = .next t
        ∧ t.ring.collecting = none ∧ isPending .ringFault t = true ∧ restOfConditions [.ringFault] s t
        ∧ attentionSent .ringFault s t
        ∧ (∃ d, t.station.counters = { s.station.counters with
              receiveOverruns := min 65535 (s.station.counters.receiveOverruns + 1), droppedAttentions := d })
        ∧ unchangedBut (.collection :: latching) s t)
  ∧ ∀ (c : Collector) (l : List RxOctet) (s : State), s.ready = true → s.board.relayClosed = false →
      s.ring.collecting = some c → lengthFault c.octets = true → c.unkept ≤ 257 →
      ∃ t, exec (.receiveTelegram l) s = .next t
        ∧ t.ring.collecting = some { c with
            parityBad := c.parityBad || l.any fun o => !parityOk o, unkept := min 257 (c.unkept + l.length) }
        ∧ unchangedBut [.collection] s t

/-- Classification takes the head of the receive queue and disposes of it by the first row that fits: a flagged entry
is counted and dropped, RING FAULT latched and its ATTENTION sent or counted as dropped; an own telegram is dropped
but for an offer, which is delivered; one to address 0 is dropped; one to 63 is delivered to its owner from its proper
origin and otherwise counted, a management request being refused with ORIGIN; one to 127 is forwarded and, of the
kinds taken there, delivered; any other is forwarded. A head that has to wait stays: one that would be forwarded with
8 telegrams in the forward queue, and a management kind to 63 without reply room. The proper origin of a kind is the
one its table gives (R161, R162, R164; that a place kept for a delivered request is no room, and that the source does
not matter, is read as log entries 7 and 38 say). -/
def Obligations.ClassificationDisposesByRow : Prop :=
  (∀ k : Octet, (isManagement k = true ↔ 0x40 ≤ k.toNat ∧ k.toNat ≤ 0x4C)
    ∧ (takenAtBroadcast k = true ↔ k ∈ [0x11#8, 0x22#8, 0x30#8, 0x38#8, 0x39#8, 0x3A#8])
    ∧ (takenHere k = true ↔ takenAtBroadcast k = true ∨ k = 0x29#8 ∨ isManagement k = true))
  ∧ (∀ (k src : Octet) (s : State),
      properOrigin s k src = true ↔
        (k = 0x11#8 ∧ ∃ g : GaugeId, s.store.gauges[g].inUse = true ∧ s.store.gauges[g].node = src.toNat)
        ∨ (k = 0x22#8 ∧ ∃ u : UnitId, s.store.units[u].enrolled = true ∧ src = driveAddress u)
        ∨ (k = 0x29#8 ∧ ∃ u : UnitId, s.enrol.offered = some u ∧ src = driveAddress u)
        ∨ (k = 0x30#8 ∧ src = 50#8) ∨ (k ∈ [0x38#8, 0x39#8, 0x3A#8] ∧ src = 49#8)
        ∨ (isManagement k = true ∧ src = 48#8))
  ∧ (∀ (x : Telegram) (s : State),
      foreignOrder s x = true ↔
        x.kind = 0x21#8 ∧ ∃ u : UnitId, s.store.units[u].enrolled = true ∧ x.dest = driveAddress u)
  ∧ (∀ (x : Telegram) (s : State),
      mustWait s x = true ↔
        (x.src ≠ 63#8 ∧ x.dest ≠ 0#8 ∧ x.dest ≠ 63#8 ∧ (x.dest = 127#8 ∨ foreignOrder s x = false)
          ∧ 8 ≤ s.ring.forward.length)
        ∨ (x.dest = 63#8 ∧ isManagement x.kind = true
          ∧ 4 ≤ s.ring.replies.length + s.ring.delivered.countP fun y => isManagement y.kind))
  ∧ (∀ (e : RxEntry) (l : List RxEntry) (s : State), s.ready = true → s.ring.rx = e :: l → e.telegram = none →
    ∃ t, exec .classification s = .next t ∧ t.ring.rx = l ∧ isPending .ringFault t = true
      ∧ (∃ d, t.station.counters = { s.station.counters with
            lineFaults := min 65535 (s.station.counters.lineFaults + 1), droppedAttentions := d })
      ∧ attentionSent .ringFault s t
      ∧ restOfConditions [.ringFault] s t ∧ unchangedBut (.received :: latching) s t)
  ∧ (∀ (e : RxEntry) (l : List RxEntry) (x : Telegram) (s : State), s.ready = true → s.ring.rx = e :: l →
      e.telegram = some x → mustWait s x = true → exec .classification s = .next s)
  ∧ ∀ (e : RxEntry) (l : List RxEntry) (x : Telegram) (s : State), s.ready = true → s.ring.rx = e :: l →
      e.telegram = some x → mustWait s x = false → foreignOrder s x = false →
      ∃ t, exec .classification s = .next t ∧ t.ring.rx = l
        ∧ if x.src = addrController then
            t.ring.delivered = (if x.kind = kindEnrolOffer then s.ring.delivered ++ [x] else s.ring.delivered)
            ∧ unchangedBut [.received, .delivered] s t
          else if x.dest = 0#8 then unchangedBut [.received] s t
          else if x.dest = addrController then
            if takenHere x.kind = true ∧ properOrigin s x.kind x.src = true then
              t.ring.delivered = s.ring.delivered ++ [x] ∧ unchangedBut [.received, .delivered] s t
            else
              t.station.counters = { s.station.counters with
                originRefusals := min 65535 (s.station.counters.originRefusals + 1) }
              ∧ t.ring.replies = (if isManagement x.kind = true ∧ x.src ≠ 0#8 ∧ x.src.toNat < 127 then
                  s.ring.replies ++ [⟨⟨x.src, addrController, kindRefused, [x.kind, 1#8]⟩, false⟩]
                else s.ring.replies)
              ∧ unchangedBut [.received, .counters, .replies, .line] s t
          else if x.dest = addrBroadcast then
            t.ring.forward = s.ring.forward ++ [x]
            ∧ t.ring.delivered = (if takenAtBroadcast x.kind = true ∧ properOrigin s x.kind x.src = true then
                s.ring.delivered ++ [x] else s.ring.delivered)
            ∧ t.station.counters = (if takenAtBroadcast x.kind = true ∧ properOrigin s x.kind x.src = false then
                { s.station.counters with originRefusals := min 65535 (s.station.counters.originRefusals + 1) }
              else s.station.counters)
            ∧ unchangedBut [.received, .forwarded, .delivered, .counters, .line] s t
          else t.ring.forward = s.ring.forward ++ [x] ∧ unchangedBut [.received, .forwarded, .line] s t

/-- As the gap ends the line falls idle and the arbiter grants: the HALT deposited first before all else, the rotation
standing; else the oldest telegram of the first non-empty queue after the one granted last, in the cycle forward,
order, poll, reply; nothing with the queues empty, the relay closed or a RESTART's reply sent. It grants likewise when
a telegram is deposited while the line is idle: a telegram that classification forwards, an order, a poll as the poll
queue takes it from the due list, or a reply. A HALT is deposited behind every HALT there, one that takes the place of
an older order too. An order, an offer or a release takes a place of its own at the tail of the sixteen (R86, R165,
R167, R168, R169, R170; that in a full queue the oldest enrolment telegram that waits gives its place up, log entry
15; the turn that tells it, and that a HALT taking a HALT's place keeps it, are the model's, log entry 42; that the
grant falls in the deposit's own step is deduced, log entry 8, and so is the moment of a reply's deposit, log entry
37). -/
def Obligations.ArbiterGrantsAnIdleLine : Prop :=
  (∀ s : State, s.ready = true → s.ring.line = .gap →
    ∃ t, exec .lineIdleGrant s = .next t ∧ unchangedBut [.line] s t ∧ t.ring.replyHeld = s.ring.replyHeld
      ∧ ((s.board.relayClosed = true ∨ s.board.restart = .replied) →
          t.ring.line = .idle ∧ t.ring.rotation = s.ring.rotation ∧ t.ring.orders = s.ring.orders)
      ∧ (s.board.relayClosed = false → s.board.restart ≠ .replied → grantedFrom s.ring t))
  ∧ (∀ (e : RxEntry) (l : List RxEntry) (x : Telegram) (s : State), s.ready = true → lineOpen s → s.ring.rx = e :: l →
      e.telegram = some x → mustWait s x = false → x.src ≠ 63#8 → x.dest ≠ 0#8 → x.dest ≠ 63#8 →
      x.dest = 127#8 ∨ foreignOrder s x = false →
      ∃ t, exec .classification s = .next t ∧ grantedFrom { s.ring with forward := s.ring.forward ++ [x] } t)
  ∧ (∀ (u : UnitId) (o : Order) (s : State), lineOpen s → s.units[u].inFlight = none →
      (∀ e ∈ s.ring.orders, holdsSlot u e = false) →
      grantedFrom { s.ring with orders := withPlace s.ring.orders ++ [newEntry (.unitOrder u o) s.ring.orders] }
        (issueOrder u o s))
  ∧ (∀ (e : PollEntry) (s : State), s.ready = true → s.pollTimers.gauge.isSome = true → lineOpen s →
      s.ring.polls.length < 4 →
      let new := allGauges.filter fun g => s.store.gauges[g].inUse && s.gauges[g].poll.isNone
        && !s.ring.demandDue.contains g && !s.ring.backgroundDue.contains g;
      nextDue s.store { s.ring with backgroundDue := s.ring.backgroundDue ++ new } = some e →
      ∃ t, exec .gaugePollTimerExpiry s = .next t ∧ grantedFrom { s.ring with polls := s.ring.polls ++ [e] } t)
  ∧ (∀ s : State, takes kindStationQuery [] s → lineOpen s →
      ∃ t, exec (.stationQuery []) s = .next t
        ∧ grantedFrom { s.ring with replies := t.ring.replies, replyHeld := false } t)
  ∧ (∀ (u : UnitId) (s : State), OrdersLaw s → s.units[u].inFlight = none →
      (∀ e ∈ s.ring.orders, holdsSlot u e = true → e.sending = false ∧ isHalt e = false) →
      let t := issueOrder u .halt s
      ∃ e ∈ t.ring.orders, holdsSlot u e = true ∧ isHalt e = true
        ∧ (∀ f ∈ s.ring.orders, f.haltTurn < e.haltTurn)
        ∧ ∀ f ∈ t.ring.orders, holdsSlot u f = false → f.unsent ∈ s.ring.orders.map OrderEntry.unsent)
  ∧ ∀ (i : OrderItem) (s : State), s.ring.orders.length ≤ 16 → (∀ u : UnitId, s.ring.orders.countP (holdsSlot u) ≤ 1) →
      s.ring.orders.countP OrderEntry.sending ≤ 1 → (∀ e ∈ s.ring.orders, e.dropped = true → e.sending = true) →
      let t := depositOrder i s
      t.ring.orders.length ≤ 16 ∧ t.ring.orders.getLast?.map OrderEntry.unsent = some (newEntry i s.ring.orders)
      ∧ if s.ring.orders.length < 16 then
          t.ring.orders.map OrderEntry.unsent
            = s.ring.orders.map OrderEntry.unsent ++ [newEntry i s.ring.orders]
        else
          ∃ (a b : List OrderEntry) (e : OrderEntry), s.ring.orders = a ++ e :: b ∧ waitsToEnrol e = true
            ∧ (∀ f ∈ a, waitsToEnrol f = false)
            ∧ t.ring.orders.map OrderEntry.unsent
              = a.map OrderEntry.unsent ++ b.map OrderEntry.unsent ++ [newEntry i s.ring.orders]

/-- At the end of the transmission of a poll it leaves its queue and its target's reply timer is armed with the
reply timeout if it is still the outstanding poll; the freed room is filled from the front of the due list with the
polls whose node has none in the queue, until the queue has its four or no such entry is left; and the line stands
in its gap (R18, R69, R166, R168). -/
def Obligations.PollTransmissionEnds : Prop :=
  (∀ (e : PollEntry) (l : List PollEntry) (x : Telegram) (g : GaugeId) (s : State), s.ready = true →
    s.ring.line = .sending .poll x → s.ring.polls = e :: l → e.target = .gauge g →
    ∃ t, exec .levelPollSent s = .next t ∧ pollsRefilled l s t ∧ t.ring.line = .gap
      ∧ t.gauges[g] = (if e.live = true then
          { s.gauges[g] with replyTimer := some s.store.station.replyTimeout } else s.gauges[g])
      ∧ restOfGauges g s t ∧ unchangedBut [.gauges, .polls, .due, .line] s t)
  ∧ ∀ (e : PollEntry) (l : List PollEntry) (x : Telegram) (u : UnitId) (s : State), s.ready = true →
      s.ring.line = .sending .poll x → s.ring.polls = e :: l → e.target = .unit u →
      ∃ t, exec .unitPollSent s = .next t ∧ pollsRefilled l s t ∧ t.ring.line = .gap
        ∧ t.units[u] = (if e.live = true then
            { s.units[u] with pollTimer := some s.store.station.replyTimeout } else s.units[u])
        ∧ restOfUnits u s t ∧ unchangedBut [.units, .polls, .due, .line] s t

/-- At the end of its transmission a UNIT ORDER becomes its unit's order in flight with the reply timer armed; an
offer of the enrolment under way starts the 2 s timer; an ENROL RELEASE, a forwarded telegram, which is counted,
and a reply leave their queues, and the first ACCEPTED of a RESTART lets the sequence go on (R63, R87, R166,
R170). -/
def Obligations.OtherTransmissionsEnd : Prop :=
  (∀ (e : OrderEntry) (x : Telegram) (u : UnitId) (o : Order) (s : State), s.ready = true →
    s.ring.line = .sending .order x → (s.ring.orders.find? fun a => a.sending) = some e →
    e.item = .unitOrder u o → e.dropped = false →
    ∃ t, exec .unitOrderSent s = .next t
      ∧ t.units[u] = { s.units[u] with inFlight := some ⟨o, s.store.station.replyTimeout⟩ }
      ∧ restOfUnits u s t ∧ t.ring.orders = s.ring.orders.eraseP (fun a => a.sending) ∧ t.ring.line = .gap
      ∧ unchangedBut [.units, .orders, .line] s t)
  ∧ (∀ (e : OrderEntry) (x : Telegram) (u : UnitId) (s : State), s.ready = true →
      s.ring.line = .sending .order x → (s.ring.orders.find? fun a => a.sending) = some e → e.item = .offer u →
      ∃ t, exec .enrolOfferSent s = .next t
        ∧ t.enrol = (if s.enrol.state = .offering ∧ s.enrol.offered = some u then ⟨.waiting, some u, some 2⟩
            else s.enrol)
        ∧ t.ring.orders = s.ring.orders.eraseP (fun a => a.sending) ∧ t.ring.line = .gap
        ∧ unchangedBut [.enrolment, .orders, .line] s t)
  ∧ (∀ (e : OrderEntry) (x : Telegram) (s : State), s.ready = true →
      s.ring.line = .sending .order x → (s.ring.orders.find? fun a => a.sending) = some e → e.item = .release →
      ∃ t, exec .enrolReleaseSent s = .next t
        ∧ t.ring.orders = s.ring.orders.eraseP (fun a => a.sending) ∧ t.ring.line = .gap
        ∧ unchangedBut [.orders, .line] s t)
  ∧ (∀ (x : Telegram) (s : State), s.ready = true → s.ring.line = .sending .forward x →
      ∃ t, exec .forwardedSent s = .next t ∧ t.ring.forward = s.ring.forward.tail ∧ t.ring.line = .gap
        ∧ t.station.counters =
            { s.station.counters with forwarded := min 65535 (s.station.counters.forwarded + 1) }
        ∧ unchangedBut [.forwarded, .counters, .line] s t)
  ∧ ∀ (e : ReplyEntry) (l : List ReplyEntry) (x : Telegram) (s : State), s.ready = true →
      s.ring.line = .sending .reply x → s.ring.replies = e :: l →
      ∃ t, exec .replySent s = .next t ∧ t.ring.replies = l ∧ t.ring.line = .gap
        ∧ t.board = (if e.restart = true then { s.board with restart := .replied } else s.board)
        ∧ unchangedBut [.replies, .board, .line] s t

/-! ## The Level Voter and the Curve Evaluator -/

/-- A vote of a point in use: the median of three usable levels, FULL; half the sum of two that agree, rounded
down, REDUCED; the higher of two that do not, DISPUTED; the level of one, DEGRADED; and with none a point that
had one becomes LOST, holding its level with its lost timer armed, while a LOST or UNSEEN point stays as it is
(R11, R14). -/
def Obligations.VotesFollowTheTable : Prop :=
  ∀ (p : PointId) (s : State), pointInUse s p = true →
    let t := votePoint p s
    unchangedBut [.points] s t ∧ (∀ q : PointId, q ≠ p → t.points[q] = s.points[q])
    ∧ t.points[p].published = s.points[p].published
    ∧ match (usableAt s p).map Prod.snd with
      | [] =>
        if s.points[p].cur.state = .unseen ∨ s.points[p].cur.state = .lost then t.points[p] = s.points[p]
        else
          t.points[p].cur = ⟨.lost, s.points[p].cur.level, decide (pointHold s p = 0)⟩
          ∧ t.points[p].lostTimer = if pointHold s p = 0 then none else some (pointHold s p)
      | [a] => t.points[p].cur = ⟨.degraded, some a, false⟩ ∧ t.points[p].lostTimer = none
      | [a, b] =>
        t.points[p].lostTimer = none
        ∧ if (a - b).natAbs ≤ pointBand s p then
            ∃ m, t.points[p].cur = ⟨.reduced, some m, false⟩ ∧ 2 * m ≤ a + b ∧ a + b < 2 * m + 2
          else t.points[p].cur = ⟨.disputed, some (if a < b then b else a), false⟩
      | a :: b :: c :: _ =>
        t.points[p].lostTimer = none
        ∧ ∃ m ∈ [a, b, c], t.points[p].cur = ⟨.full, some m, false⟩
          ∧ 2 ≤ ([a, b, c].countP fun x => decide (x ≤ m)) ∧ 2 ≤ ([a, b, c].countP fun x => decide (m ≤ x))

/-- A curve is read at a head: below its first point that point's values, CLAMPED; at its first or its last point that
point's values, ON CURVE; above the last no discharge and its power, BEYOND CURVE. Inside a curve the segment whose
lower point has the largest head at or below H is read: its discharge by a quotient rounded down and its power by one
rounded up, each from its exact value, every product within bounds, and at a point of the curve that point's own
values. A unit of a type not in use is estimated NO TYPE, with no head, no source and no stage; one of a basin not in
use NO BASIN, each stage the type has at no discharge and the largest power of its curve, NO HEAD; otherwise each
stage is read at the head. A stage that the type has no curve for is at no discharge and the start power, NO CURVE
(R28, R32, R33, R34, R36). -/
def Obligations.InterpolationRounds : Prop :=
  (∀ (before after : List CurvePoint) (a b : CurvePoint) (h : Nat),
    ascending ((before ++ a :: b :: after).map fun c => (c.h : Int)) = true →
    pointsInRange (before ++ a :: b :: after) = true → a.h ≤ h → h < b.h →
    let r := readCurve h (before ++ a :: b :: after)
    let width : Int := (b.h : Int) - a.h
    let dq : Int := ((b.q : Int) - a.q) * ((h : Int) - a.h)
    let dp : Int := ((b.p : Int) - a.p) * ((h : Int) - a.h)
    r.status = .onCurve
    ∧ (∃ k : Int, (r.q : Int) = a.q + k ∧ k * width ≤ dq ∧ dq < (k + 1) * width)
    ∧ (∃ k : Int, (r.p : Int) = a.p + k ∧ (k - 1) * width < dp ∧ dp ≤ k * width)
    ∧ (h = a.h → r.q = a.q ∧ r.p = a.p)
    ∧ dq.natAbs ≤ 65535 * 60000 ∧ dp.natAbs ≤ 65535 * 60000)
  ∧ (∀ (a : CurvePoint) (l : List CurvePoint) (h : Nat),
      (h < a.h → readCurve h (a :: l) = ⟨a.q, a.p, .clamped⟩)
      ∧ (h = a.h → readCurve h (a :: l) = ⟨a.q, a.p, .onCurve⟩))
  ∧ (∀ (l : List CurvePoint) (a : CurvePoint) (h : Nat),
      ascending ((l ++ [a]).map fun c => (c.h : Int)) = true →
      (h = a.h → readCurve h (l ++ [a]) = ⟨a.q, a.p, .onCurve⟩)
      ∧ (a.h < h → readCurve h (l ++ [a]) = ⟨0, a.p, .beyondCurve⟩))
  ∧ ∀ (u : UnitId) (s : State),
      let t := typeRecOf s u
      let curves := [(t.high.toList.take t.highCount, Stage.high),
        (if t.stageCount = 2 then t.low.toList.take t.lowCount else [], Stage.low)]
      (s.store.units[u].enrolled = false → estimateFor s u = none)
      ∧ (s.store.units[u].enrolled = true → ∃ e, estimateFor s u = some e
        ∧ (t.inUse = false → e = ⟨.noType, none, none, none, none, none⟩)
        ∧ (t.inUse = true → s.store.basins[basinOfUnit s u].inUse = false →
            e.status = .noBasin ∧ e.head = none ∧ e.riverSource = none ∧ e.basinSource = none
            ∧ ∀ c ∈ curves, ∃ x, e.stage c.2 = some x ∧ x.q = 0
              ∧ if c.1 = [] then x.p = t.startPower ∧ x.status = .noCurve
                else (∀ a ∈ c.1, a.p ≤ x.p) ∧ (∃ a ∈ c.1, a.p = x.p) ∧ x.status = .noHead)
        ∧ (t.inUse = true → s.store.basins[basinOfUnit s u].inUse = true →
            e.status = .estimated ∧ ∃ h, e.head = some h
            ∧ ∀ c ∈ curves, e.stage c.2
              = some (if c.1 = [] then ⟨0, t.startPower, .noCurve⟩ else readCurve h c.1)))

/-- The head of a basin: the raw head is the river term less the basin term plus the outlet loss and lies in −60000 to
+62000 for levels in range; the head is the raw head clamped to 0 to 60000, and it is what the estimate record of a
unit with a head shows, with the sources of its terms. The river term is the river level in use; the basin term is the
level of the basin's point as last published, VOTED, or HELD while it is LOST, and the stop level while it is UNSEEN
or LOST with its hold expired (R29, R30, R31). -/
def Obligations.HeadIsClamped : Prop :=
  (∀ (river basin : Int) (loss : Nat), -30000 ≤ river → river ≤ 30000 → -30000 ≤ basin → basin ≤ 30000 →
    loss ≤ 2000 →
    let raw := river - basin + loss;
    -60000 ≤ raw ∧ raw ≤ 62000
    ∧ (headOf river basin loss : Int) = if raw < 0 then 0 else if 60000 < raw then 60000 else raw)
  ∧ (∀ (u : UnitId) (s : State), s.store.units[u].enrolled = true → (typeRecOf s u).inUse = true →
      s.store.basins[basinOfUnit s u].inUse = true →
      (estimateFor s u).bind Estimate.head
        = some (headOf s.riverUse.level
            (basinTerm s.store.basins[basinOfUnit s u] s.points[basinPoint (basinOfUnit s u)].published).1
            s.store.basins[basinOfUnit s u].outletLoss)
      ∧ (estimateFor s u).bind Estimate.riverSource = some s.riverUse.source
      ∧ (estimateFor s u).bind Estimate.basinSource
        = some (basinTerm s.store.basins[basinOfUnit s u] s.points[basinPoint (basinOfUnit s u)].published).2)
  ∧ ∀ (r : BasinRec) (l : Int) (level : Option Int) (expired : Bool),
      (∀ st : PointState, st ∈ [.full, .reduced, .disputed, .degraded] →
        basinTerm r ⟨st, some l, expired⟩ = (l, .voted))
      ∧ basinTerm r ⟨.lost, some l, false⟩ = (l, .held) ∧ basinTerm r ⟨.lost, some l, true⟩ = (r.stopLevel, .stopLevel)
      ∧ basinTerm r ⟨.unseen, level, expired⟩ = (r.stopLevel, .stopLevel)

/-- A BINARY report carries its reading in two's complement, high octet first; a DECIMAL report six packed digits,
the least significant first, with a sign digit; a wrong length, a digit above 9, a sign digit above 1 or a health
other than the two is malformed (R5, R6, 10.3). -/
def Obligations.LevelReportsAreRead : Prop :=
  (∀ (health a b : Octet),
    levelReading 0 [health, a, b]
      = (if health = 0#8 then some (.unhealthy, (a ++ b : BitVec 16).toInt)
         else if health = 1#8 then some (.healthy, (a ++ b : BitVec 16).toInt) else none))
  ∧ (∀ (health : Octet) (d0 d1 d2 d3 d4 d5 : BitVec 4),
      levelReading 1 [health, d1 ++ d0, d3 ++ d2, d5 ++ d4]
        = (if d0.toNat ≤ 9 ∧ d1.toNat ≤ 9 ∧ d2.toNat ≤ 9 ∧ d3.toNat ≤ 9 ∧ d4.toNat ≤ 9 ∧ d5.toNat ≤ 1
              ∧ health.toNat ≤ 1 then
            some (if health = 0#8 then .unhealthy else .healthy,
              (if d5.toNat = 1 then -1 else 1)
                * ((d0.toNat + 10 * d1.toNat + 100 * d2.toNat + 1000 * d3.toNat + 10000 * d4.toNat : Nat) : Int))
          else none))
  ∧ ∀ p : List Octet, (p.length ≠ 3 → levelReading 0 p = none) ∧ (p.length ≠ 4 → levelReading 1 p = none)

/-- A LEVEL REPORT from the node of an in-use gauge is that gauge's sample: its reading, level, health, status, age
and stale timer, its miss count at 0, its timed poll answered and a demand poll's end reported; then its point,
if in use, is voted and published, and the step and the override of a basin whose point is published anew follow from
it under hysteresis. No other gauge's sample changes (R5, R7, R15, R18, R49 to R54, R57, R114). -/
def Obligations.LevelReportIsSampled : Prop :=
  ∀ (g : GaugeId) (src : Octet) (p : List Octet) (s : State), s.ready = true → gaugeAtNode s src = some g →
    ∃ t, exec (.levelReport src p) s = .next t
      ∧ (match levelReading s.store.gauges[g].encoding p with
          | none => t.gauges[g].status = .malformed ∧ t.gauges[g].reading = none ∧ t.gauges[g].level = none
              ∧ t.gauges[g].health = .unknown ∧ t.gauges[g].staleTimer = none
          | some (h, x) => t.gauges[g].reading = some x ∧ t.gauges[g].level = some (x + s.store.gauges[g].offset)
              ∧ t.gauges[g].health = h
              ∧ if s.store.gauges[g].validMin ≤ x + s.store.gauges[g].offset
                    ∧ x + s.store.gauges[g].offset ≤ s.store.gauges[g].validMax then
                  t.gauges[g].status = .fresh ∧ t.gauges[g].staleTimer = some s.store.gauges[g].staleAge
                else t.gauges[g].status = .outOfRange ∧ t.gauges[g].staleTimer = none)
      ∧ t.gauges[g].age = some 0 ∧ t.gauges[g].miss = 0
      ∧ (t.gauges[g].poll, t.gauges[g].replyTimer)
          = (if s.gauges[g].replyTimer.isSome = true then (none, none) else (s.gauges[g].poll, none))
      ∧ t.engine.candidate = (if s.gauges[g].replyTimer.isSome = true ∧ s.gauges[g].poll = some .demand then
          s.engine.candidate.map fun c => { c with confirm := c.confirm.erase g } else s.engine.candidate)
      ∧ (∀ h : GaugeId, h ≠ g → { t.gauges[h] with
            disagree := s.gauges[h].disagree, agree := s.gauges[h].agree, faulty := s.gauges[h].faulty }
          = s.gauges[h])
      ∧ (∀ q : PointId, gaugePoint s.store.gauges[g] = some q → pointInUse s q = true →
          s.points[q].published = s.points[q].cur → votedAt q s.points[q] t)
      ∧ (TargetLaw s → basinsFollow s t)
      ∧ t.ring.delivered = s.ring.delivered.eraseP (sameTelegram kindLevelReport src p)
      ∧ unchangedBut ([.gauges, .delivered, .candidate] ++ voting) s t

/-- A report whose counting vote is over three gauges raises the disagree count of each that lies beyond the band from
the median, and at 3 marks it FAULTY with GAUGE FAULT; each within it has the count cleared; over fewer gauges every
count stays. A report of a FAULTY gauge within the band of its point's voted level raises the agree count, the fifth
clearing the mark; one beyond it or unfit clears the count; with no voted level the count stays (R12, R13). -/
def Obligations.FaultyMarksAreSetAndCleared : Prop :=
  (∀ (p : PointId) (a b c : GaugeId × Int) (s : State), usableAt s p = [a, b, c] →
    let t := countDisagreement p s
    let m := median a.2 b.2 c.2
    (∀ x ∈ [a, b, c],
      t.gauges[x.1] = (if pointBand s p < (x.2 - m).natAbs then
          if 3 ≤ s.gauges[x.1].disagree + 1 then
            { s.gauges[x.1] with disagree := 0, agree := 0, faulty := some .disagree }
          else { s.gauges[x.1] with disagree := s.gauges[x.1].disagree + 1 }
        else { s.gauges[x.1] with disagree := 0 }))
    ∧ (∀ g : GaugeId, g ∉ [a.1, b.1, c.1] → t.gauges[g] = s.gauges[g])
    ∧ ((∃ x ∈ [a, b, c], pointBand s p < (x.2 - m).natAbs ∧ 3 ≤ s.gauges[x.1].disagree + 1) →
        isPending .gaugeFault t = true)
    ∧ restOfConditions [.gaugeFault] s t ∧ unchangedBut (.gauges :: latching) s t)
  ∧ (∀ (g : GaugeId) (q : PointId) (src : Octet) (payload : List Octet) (s : State), s.ready = true →
      gaugeAtNode s src = some g → gaugePoint s.store.gauges[g] = some q → pointInUse s q = true →
      ∃ t, exec (.levelReport src payload) s = .next t
        ∧ (let w := takeSample g payload s
          (∀ h : GaugeId, h ≠ g → w.gauges[h] = s.gauges[h])
          ∧ w.gauges[g].disagree = s.gauges[g].disagree
          ∧ match usableAt w q with
            | [a, b, c] =>
              (∀ x ∈ [a, b, c],
                if pointBand s q < (x.2 - median a.2 b.2 c.2).natAbs then
                  if 3 ≤ w.gauges[x.1].disagree + 1 then
                    t.gauges[x.1] = { w.gauges[x.1] with disagree := 0, agree := 0, faulty := some .disagree }
                    ∧ isPending .gaugeFault t = true
                  else t.gauges[x.1] = { w.gauges[x.1] with disagree := w.gauges[x.1].disagree + 1 }
                else t.gauges[x.1] = { w.gauges[x.1] with disagree := 0 })
              ∧ ∀ h : GaugeId, h ∉ [a.1, b.1, c.1] → t.gauges[h] = w.gauges[h]
            | _ => ∀ h : GaugeId, t.gauges[h] = w.gauges[h])
        ∧ (s.points[q].published = s.points[q].cur → votedAt q s.points[q] t)
        ∧ unchangedBut ([.gauges, .delivered, .candidate] ++ voting) s t)
  ∧ (∀ (g : GaugeId) (q : PointId) (f : FaultyReason) (v : Int) (src : Octet) (p : List Octet) (s : State),
      s.ready = true → gaugeAtNode s src = some g → gaugePoint s.store.gauges[g] = some q →
      s.gauges[g].faulty = some f → s.gauges[g].disagree = 0 → s.points[q].cur.level = some v →
      ∃ t, exec (.levelReport src p) s = .next t
        ∧ if t.gauges[g].status = .fresh ∧ t.gauges[g].health = .healthy
              ∧ (t.gauges[g].level.any fun l => decide ((l - v).natAbs ≤ pointBand s q)) = true then
            if 5 ≤ s.gauges[g].agree + 1 then t.gauges[g].faulty = none ∧ t.gauges[g].agree = 0
            else t.gauges[g].faulty = some f ∧ t.gauges[g].agree = s.gauges[g].agree + 1
          else t.gauges[g].faulty = some f ∧ t.gauges[g].agree = 0)
  ∧ ∀ (g : GaugeId) (q : PointId) (f : FaultyReason) (src : Octet) (p : List Octet) (s : State),
      s.ready = true → gaugeAtNode s src = some g → gaugePoint s.store.gauges[g] = some q →
      s.gauges[g].faulty = some f → s.points[q].cur.level = none →
      ∃ t, exec (.levelReport src p) s = .next t ∧ t.gauges[g].faulty = some f
        ∧ t.gauges[g].agree = s.gauges[g].agree ∧ t.gauges[g].disagree = s.gauges[g].disagree

/-- A stale timer's expiry makes its gauge's sample STALE, all it holds kept, and its point is voted; a lost timer's
expiry sets the point's hold-expired flag; each outcome is published, and the basin of a point published anew follows:
HELD it keeps its step and override, BLIND it takes the blind step, UNSEEN step 0, and VOTED its level moves it (R8,
R14, R15, R49 to R54, R57). -/
def Obligations.StaleAndLostTimersRunOut : Prop :=
  (∀ (g : GaugeId) (s : State), s.ready = true → s.gauges[g].staleTimer.isSome = true →
    ∃ t, exec (.staleTimerExpiry g.val) s = .next t
      ∧ t.gauges[g] = { s.gauges[g] with status := .stale, staleTimer := none } ∧ restOfGauges g s t
      ∧ (∀ q : PointId, gaugePoint s.store.gauges[g] = some q → pointInUse s q = true →
          s.points[q].published = s.points[q].cur → votedAt q s.points[q] t)
      ∧ (TargetLaw s → basinsFollow s t)
      ∧ unchangedBut (.gauges :: voting) s t)
  ∧ ∀ (p : PointId) (s : State), s.ready = true → s.points[p].lostTimer.isSome = true →
      ∃ t, exec (.lostTimerExpiry (p.val + 1)) s = .next t
        ∧ t.points[p].cur = { s.points[p].cur with holdExpired := true }
        ∧ t.points[p].published = t.points[p].cur ∧ t.points[p].lostTimer = none
        ∧ (TargetLaw s → basinsFollow s t)
        ∧ (∀ q : PointId, q ≠ p → t.points[q] = s.points[q]) ∧ unchangedBut voting s t

/-- A poll timer's expiry arms the timer again with the interval in force and places an entry, in number order at the
end of its part of the due list, for every in-use gauge, or enrolled unit, that has no poll; one whose entry still
waits in the due list is counted as skipped, and one whose poll has left it is passed over. Then the poll queue is
filled from the front of the due list, whose other entries stay as they stood (R17, R18, R68; that all are placed
before the queue is filled is the model's reading, log entry 40, and that they stand behind those of an earlier round
too, log entry 14). -/
def Obligations.PollRoundsArePlaced : Prop :=
  (∀ s : State, s.ready = true → s.pollTimers.gauge.isSome = true →
    ∃ t, exec .gaugePollTimerExpiry s = .next t
      ∧ t.pollTimers = { s.pollTimers with
          gauge := some (if s.station.standby = true then s.store.station.standbyPollInterval
            else s.store.station.gaugePollInterval) }
      ∧ (let new := allGauges.filter fun g => s.store.gauges[g].inUse && s.gauges[g].poll.isNone
            && !s.ring.demandDue.contains g && !s.ring.backgroundDue.contains g;
          pollsFilledFrom { s.ring with backgroundDue := s.ring.backgroundDue ++ new } s t
          ∧ ∀ g : GaugeId, t.gauges[g]
              = if g ∈ new then { s.gauges[g] with poll := some .background } else s.gauges[g])
      ∧ (let k := allGauges.countP fun g => s.store.gauges[g].inUse
            && (s.ring.demandDue.contains g || s.ring.backgroundDue.contains g);
          t.station.counters = (if k = 0 then s.station.counters
            else { s.station.counters with skippedPolls := min 65535 (s.station.counters.skippedPolls + k) }))
      ∧ unchangedBut [.gauges, .pollTimers, .polls, .due, .line, .counters] s t)
  ∧ ∀ s : State, s.ready = true → s.pollTimers.unit.isSome = true →
      ∃ t, exec .unitPollTimerExpiry s = .next t
        ∧ t.pollTimers = { s.pollTimers with
            unit := some (if s.station.standby = true then s.store.station.standbyPollInterval
              else s.store.station.unitPollInterval) }
        ∧ (let new := allUnits.filter fun u => s.store.units[u].enrolled && !s.ring.unitDue.contains u
              && s.units[u].pollTimer.isNone
              && !(s.ring.polls.any fun e => decide (e.target = .unit u) && e.live);
            pollsFilledFrom { s.ring with unitDue := s.ring.unitDue ++ new } s t)
        ∧ (let k := allUnits.countP fun u => s.store.units[u].enrolled && s.ring.unitDue.contains u;
            t.station.counters = (if k = 0 then s.station.counters
              else { s.station.counters with skippedPolls := min 65535 (s.station.counters.skippedPolls + k) }))
        ∧ unchangedBut [.pollTimers, .polls, .due, .line, .counters] s t

/-- A background poll's timeout ends the poll and counts a miss, and changes nothing else of the gauge; a demand
poll's marks the gauge FAULTY with reason SILENT, raises GAUGE FAULT, votes the point without counting, and takes
the gauge off the confirmation list, the miss count standing; the basin of a point published anew follows (R19, R21,
R49 to R54, R114). -/
def Obligations.GaugePollsTimeOut : Prop :=
  (∀ (g : GaugeId) (s : State), s.ready = true → s.gauges[g].poll = some .background →
    s.gauges[g].replyTimer.isSome = true →
    ∃ t, exec (.backgroundPollTimeout g.val) s = .next t
      ∧ t.gauges[g] = { s.gauges[g] with poll := none, replyTimer := none, miss := min 255 (s.gauges[g].miss + 1) }
      ∧ restOfGauges g s t ∧ unchangedBut [.gauges] s t)
  ∧ ∀ (g : GaugeId) (s : State), s.ready = true → s.gauges[g].poll = some .demand →
      s.gauges[g].replyTimer.isSome = true →
      ∃ t, exec (.demandPollTimeout g.val) s = .next t
        ∧ t.gauges[g] = { s.gauges[g] with
            poll := none, replyTimer := none, faulty := some .silent, disagree := 0, agree := 0 }
        ∧ restOfGauges g s t ∧ isPending .gaugeFault t = true
        ∧ t.engine.candidate = s.engine.candidate.map (fun c => { c with confirm := c.confirm.erase g })
        ∧ (∀ q : PointId, gaugePoint s.store.gauges[g] = some q → pointInUse s q = true →
            s.points[q].published = s.points[q].cur → votedAt q s.points[q] t)
        ∧ (TargetLaw s → basinsFollow s t)
        ∧ unchangedBut ([.gauges, .candidate] ++ voting) s t

/-! ## The Unit Controller -/

/-- A report of control place REMOTE and trip code 0 confirms what was ordered. STARTING goes RUNNING at the stage
reported, the minimum run timer armed, or elapsed at once for 0, and RAISING goes RUNNING HIGH, the allowance going to
SPACING, or to FREE for a spacing of 0; LOWERING goes RUNNING LOW; RUNNING takes the stage reported; and RUNNING,
RAISING, LOWERING and STOPPING that report STOPPED go to rest. Any other motion, and every report in TRIPPED, moves
nothing. The order in flight is answered by TAKEN, or by a DECLINED that comes too late to act, and the pending order
is released; units of a type not in use are left out (R70, R78, R79, R80, R81, R82, R88, R95, R96; that a RESTAGE is
declined by its own stage is deduced, log entry 17, and that a START or RESTAGE is released in SETUP too, log entry 41;
which entry gives its place up to a released order in a full queue is the model's choice, log entry 15). -/
def Obligations.ReportsConfirmOrders : Prop :=
  ∀ (u : UnitId) (src : Octet) (p : List Octet) (m : Motion) (oc : OrderOutcome) (s : State), s.ready = true →
    DispatchLaws s → OrdersLaw s → enrolledAt s src = some u → unitReportOf p = some ⟨.remote, m, 0, oc⟩ →
    ¬ declinesNow u ⟨.remote, m, 0, oc⟩ s → (typeRecOf s u).inUse = true →
    onStack s.units[u].state = true ∨ s.units[u].state = .stopping ∨ s.units[u].state = .tripped →
    ∃ t, exec (.unitReport src p) s = .next t
      ∧ (let stays :=
          t.units[u].state = s.units[u].state ∧ t.units[u].stage = s.units[u].stage
          ∧ t.units[u].trip = s.units[u].trip ∧ t.units[u].minRun = s.units[u].minRun
          ∧ t.units[u].confirmTimer = s.units[u].confirmTimer ∧ t.engine = s.engine
        let runs := fun x : Stage =>
          t.units[u].state = .running ∧ t.units[u].stage = some x ∧ t.units[u].confirmTimer = none
          ∧ t.engine.stack = s.engine.stack
        match s.units[u].state with
        | .starting =>
          match m.stage with
          | some x =>
            runs x ∧ spacedAs s t
            ∧ t.units[u].minRun
                = (if (typeRecOf s u).minRun = 0 then .elapsed else .running (typeRecOf s u).minRun)
          | none => stays
        | .running =>
          match m, m.stage with
          | .stopped, _ => restedAs u s t
          | _, some x =>
            t.units[u].state = .running ∧ t.units[u].stage = some x ∧ t.units[u].minRun = s.units[u].minRun
            ∧ t.engine = s.engine
          | _, none => stays
        | .raising =>
          match m with
          | .stopped => restedAs u s t
          | .runHigh => runs .high ∧ spacedAs s t ∧ t.units[u].minRun = s.units[u].minRun
          | _ => stays
        | .lowering =>
          match m with
          | .stopped => restedAs u s t
          | .runLow => runs .low ∧ t.units[u].minRun = s.units[u].minRun ∧ t.engine = s.engine
          | _ => stays
        | .stopping => if m = .stopped then restedAs u s t else stays
        | _ => stays)
      ∧ reportTaken u ⟨.remote, m, 0, oc⟩ s t ∧ ordersReleased u ⟨.remote, m, 0, oc⟩ s t
      ∧ (t.units[u].state ≠ s.units[u].state ∨ t.units[u].stage ≠ s.units[u].stage → s.evalDue < t.evalDue)
      ∧ restOfUnits u s t ∧ unchangedBut (moving ++ [.spacing, .orders, .delivered]) s t

/-- A report with a trip code takes any unit but an OUT OF SERVICE or TRIPPED one to TRIPPED with that code; a report
of control place LOCAL without one takes any but an OUT OF SERVICE or LOCAL one to LOCAL at the reported stage. The
unit leaves service: its timers idle, its orders but a HALT or one on the line withdrawn, the others' staying, no
order issued, off the stack, without the allowance or candidacy; UNIT TRIPPED is announced as it becomes pending. A
TRIPPED unit takes a new drive trip code, a LOCAL one a new stage; an OUT OF SERVICE one keeps its state; a malformed
report, or one from no enrolled unit's drive, has no effect. The outcome answers the order in flight all the same.
(R70, R71, R72, R75, R82, R84, R88, R180. That the owner's command itself discards a report from no enrolled unit's
drive, in silence, is the model's choice, log entry 1: R162 discards it at classification and counts it, as
ClassificationDisposesByRow says. A report that declines the order in flight, in the state that the order produced, is
left to DeclinedOrdersAct; which states those are is deduced, log entry 17. That a pending order is released in SETUP
too is deduced, log entry 41. Which entry gives its place up to it in a full queue is the model's choice, log entry 15,
and the room of UNIT TRIPPED's ATTENTION is deduced, log entry 7.) -/
def Obligations.TripAndLocalReportsLeaveService : Prop :=
  (∀ (u : UnitId) (src : Octet) (p : List Octet) (r : Report) (s : State), s.ready = true → OrdersLaw s →
    enrolledAt s src = some u → unitReportOf p = some r → ¬ declinesNow u r s →
    s.units[u].state ≠ .outOfService →
    (r.trip ≠ 0 ∧ s.units[u].state ≠ .tripped) ∨ (r.trip = 0 ∧ r.place = .panel ∧ s.units[u].state ≠ .localControl) →
    ∃ t, exec (.unitReport src p) s = .next t
      ∧ (if r.trip ≠ 0 then
          t.units[u].state = .tripped ∧ t.units[u].stage = none ∧ t.units[u].trip = some (.driveTrip r.trip)
          ∧ isPending .unitTripped t = true ∧ (DispatchLaws s → attentionSent .unitTripped s t)
        else t.units[u].state = .localControl ∧ t.units[u].stage = r.motion.stage ∧ t.units[u].trip = none)
      ∧ t.units[u].minRun = .idle ∧ t.units[u].restTimer = none ∧ t.units[u].confirmTimer = none
      ∧ reportTaken u r s t ∧ ordersWithdrawn u r s t
      ∧ releasedBy u t ∧ s.evalDue < t.evalDue ∧ restOfUnits u s t
      ∧ unchangedBut (moving ++ [.orders, .delivered]) s t)
  ∧ (∀ (u : UnitId) (src : Octet) (p : List Octet) (r : Report) (s : State), s.ready = true → OrdersLaw s →
      enrolledAt s src = some u → unitReportOf p = some r →
      s.units[u].state = .outOfService ∨ (s.units[u].state = .tripped ∧ r.trip ≠ 0)
        ∨ (s.units[u].state = .localControl ∧ r.trip = 0 ∧ r.place = .panel) →
      ∃ t, exec (.unitReport src p) s = .next t
        ∧ t.units[u].state = s.units[u].state
        ∧ (if s.units[u].state = .localControl then
            t.units[u].stage = r.motion.stage ∧ t.units[u].trip = none
            ∧ (t.units[u].stage ≠ s.units[u].stage → s.evalDue < t.evalDue)
          else
            t.units[u] = { s.units[u] with
              lastReport := t.units[u].lastReport, miss := t.units[u].miss, pollTimer := t.units[u].pollTimer,
              inFlight := t.units[u].inFlight, pendingOrder := t.units[u].pendingOrder,
              trip := match s.units[u].state, s.units[u].trip with
                | .tripped, some (.driveTrip _) => some (.driveTrip r.trip)
                | _, x => x })
        ∧ reportTaken u r s t ∧ ordersReleased u r s t ∧ restOfUnits u s t
        ∧ (∀ q : Purpose, t.engine.allowance = .held u q → s.engine.allowance = .held u q)
        ∧ unchangedBut (moving ++ [.orders, .delivered]) s t)
  ∧ ∀ (src : Octet) (p : List Octet) (s : State), s.ready = true →
      enrolledAt s src = none ∨ unitReportOf p = none →
      ∃ t, exec (.unitReport src p) s = .next t ∧ unchangedBut [.delivered] s t

/-- The settled-report rule, for units of a type in use: a unit in UNKNOWN that reports STOPPED goes RESTING with its
rest timer armed in full, or READY for a rest of 0; one that reports RUN is adopted, RUNNING with its minimum run
elapsed and on top of the stack, or in SETUP ordered to stop; one still moving stays UNKNOWN. A LOCAL unit reporting
REMOTE and a MISSING one that reports return so, and a RESTING or READY unit, or the candidate, that reports a
movement not ordered is treated so; stopped, the RESTING, READY and candidate stay, whatever their type. The outcome
answers the order in flight, and a pending order is then deposited as if newly issued (R72, R73, R74, R76, R81, R83,
R88; that it is so in SETUP too, for a START or RESTAGE as well, is deduced and not the words of R85 and R144, log
entry 41, and which entry gives its place up to it in a full queue is the model's choice, log entry 15). -/
def Obligations.SettledReportsAreApplied : Prop :=
  (∀ (u : UnitId) (src : Octet) (p : List Octet) (m : Motion) (oc : OrderOutcome) (s : State), s.ready = true →
    DispatchLaws s → OrdersLaw s → enrolledAt s src = some u → unitReportOf p = some ⟨.remote, m, 0, oc⟩ →
    (typeRecOf s u).inUse = true →
    s.units[u].state = .unknown ∨ s.units[u].state = .localControl ∨ s.units[u].state = .missing
      ∨ (m ≠ .stopped ∧ (s.units[u].state = .resting ∨ s.units[u].state = .ready
          ∨ candidateState s.units[u].state = true)) →
    ∃ t, exec (.unitReport src p) s = .next t
      ∧ settledAs u m s t ∧ reportTaken u ⟨.remote, m, 0, oc⟩ s t
      ∧ (m.stage = none ∨ s.station.mode ≠ .setup → ordersReleased u ⟨.remote, m, 0, oc⟩ s t)
      ∧ othersStayQueued u s t
      ∧ (s.units[u].state = .missing → isPending .unitSilent t
          = allUnits.any (fun v => decide (v ≠ u ∧ s.units[v].state = .missing)))
      ∧ (∀ c : Candidate, t.engine.candidate = some c → c.unit ≠ u)
      ∧ (t.units[u].state ≠ s.units[u].state ∨ t.units[u].stage ≠ s.units[u].stage → s.evalDue < t.evalDue)
      ∧ restOfUnits u s t ∧ unchangedBut (moving ++ [.orders, .delivered]) s t)
  ∧ ∀ (u : UnitId) (src : Octet) (p : List Octet) (oc : OrderOutcome) (s : State), s.ready = true → OrdersLaw s →
      enrolledAt s src = some u → unitReportOf p = some ⟨.remote, .stopped, 0, oc⟩ →
      s.units[u].state = .resting ∨ s.units[u].state = .ready ∨ candidateState s.units[u].state = true →
      ∃ t, exec (.unitReport src p) s = .next t
        ∧ t.units[u] = { s.units[u] with
            lastReport := some ⟨.remote, .stopped, 0, oc⟩, miss := 0, pollTimer := t.units[u].pollTimer,
            inFlight := t.units[u].inFlight, pendingOrder := t.units[u].pendingOrder }
        ∧ reportTaken u ⟨.remote, .stopped, 0, oc⟩ s t ∧ ordersReleased u ⟨.remote, .stopped, 0, oc⟩ s t
        ∧ restOfUnits u s t ∧ unchangedBut [.units, .orders, .line, .delivered] s t

/-- A DECLINED answer ends the order in flight and acts where the unit is still in the state the order produced, and the
report is then applied by its trip code, control place and motion: a START leaves the unit RESTING, a RESTAGE RUNNING
at the stage before it, and either is settled or moved on by what it reports; a STOP issues a HALT and trips the unit
with STOP FAILED, a HALT trips it so with no further HALT. The pending order is released, and what leaves service
withdraws it but for a HALT; units of a type not in use are left out (R70, R71, R72, R75, R82, R88; deduced are that a
RESTAGE is declined by its own stage, log entry 17, and that a START or RESTAGE is released in SETUP too, log entry 41;
which entry gives its place up to a released order in a full queue is the model's choice, log entry 15). -/
def Obligations.DeclinedOrdersAct : Prop :=
  ∀ (u : UnitId) (src : Octet) (p : List Octet) (r : Report) (o : Order) (d : Nat) (s : State), s.ready = true →
    DispatchLaws s → OrdersLaw s → enrolledAt s src = some u → unitReportOf p = some r → r.outcome = .declined →
    s.units[u].inFlight = some ⟨o, d⟩ → declineActs o s.units[u].state = true → (typeRecOf s u).inUse = true →
    ∃ t, exec (.unitReport src p) s = .next t
      ∧ (if o = .stop ∨ o = .halt then
          (if r.trip = 0 ∧ r.place = .panel then
            t.units[u].state = .localControl ∧ t.units[u].stage = r.motion.stage ∧ t.units[u].trip = none
          else t.units[u].state = .tripped ∧ t.units[u].stage = none ∧ t.units[u].trip = some .stopFailed)
          ∧ (o = .stop ∨ s.units[u].pendingOrder = some .halt → holdsOrder u .halt t)
          ∧ (o = .halt → s.units[u].pendingOrder ≠ some .halt →
              t.units[u].pendingOrder = none ∧ queuedEntry t u = none)
          ∧ releasedBy u t ∧ othersStayQueued u s t
        else if r.trip ≠ 0 then
          t.units[u].state = .tripped ∧ t.units[u].stage = none ∧ t.units[u].trip = some (.driveTrip r.trip)
          ∧ ordersWithdrawn u r s t ∧ releasedBy u t
        else if r.place = .panel then
          t.units[u].state = .localControl ∧ t.units[u].stage = r.motion.stage
          ∧ ordersWithdrawn u r s t ∧ releasedBy u t
        else
          (r.motion.stage = none ∨ s.station.mode ≠ .setup ∨ (∃ x, o = .restage x) → ordersReleased u r s t)
          ∧ othersStayQueued u s t
          ∧ match o with
            | .restage x =>
              if r.motion = .stopped then restedAs u s t
              else t.units[u].state = .running ∧ t.units[u].stage = some (r.motion.stage.getD x.other)
                ∧ t.engine.stack = s.engine.stack ∧ t.units[u].minRun = s.units[u].minRun
            | _ => settledAs u r.motion s t)
      ∧ t.units[u].inFlight = none
      ∧ (t.units[u].state = .stopping ∨ t.units[u].confirmTimer = none)
      ∧ t.units[u].lastReport = some r ∧ t.units[u].miss = 0 ∧ t.units[u].pollTimer = s.units[u].pollTimer
      ∧ (∀ q : Purpose, t.engine.allowance ≠ .held u q)
      ∧ t.store = s.store ∧ s.evalDue < t.evalDue ∧ restOfUnits u s t
      ∧ unchangedBut (moving ++ [.orders, .delivered]) s t

/-- A unit poll's timeout ends the poll and counts a miss; below three, or OUT OF SERVICE, MISSING or VACANT, the unit
stays as it is. At the third miss, or as an order in flight goes unanswered, any other unit goes MISSING at the stage
of its last report and leaves service, a HALT it held pending being deposited, its queued HALT and the others' orders
staying, and UNIT SILENT is announced as it becomes pending. An order unanswered of a unit already MISSING, OUT OF
SERVICE or VACANT ends, its pending order is deposited and its state stays (R69, R75, R83, R88, R89, R180; which entry
gives its place up to it in a full queue is the model's choice, log entry 15; deduced are that a START or RESTAGE is
deposited in SETUP too, log entry 41, and the room of the ATTENTION, log entry 7). -/
def Obligations.SilentUnitsGoMissing : Prop :=
  (∀ (u : UnitId) (s : State), s.ready = true → s.units[u].pollTimer.isSome = true →
    (s.units[u].miss < 2 ∨ mayGoMissing s.units[u].state = false) →
    ∃ t, exec (.unitPollTimeout (unitNumber u)) s = .next t
      ∧ t.units[u] = { s.units[u] with pollTimer := none, miss := min 255 (s.units[u].miss + 1) }
      ∧ restOfUnits u s t ∧ unchangedBut [.units] s t)
  ∧ (∀ (c : Instr) (u : UnitId) (s : State), s.ready = true → mayGoMissing s.units[u].state = true →
      (c = .unitPollTimeout (unitNumber u) ∧ s.units[u].pollTimer.isSome = true ∧ 2 ≤ s.units[u].miss)
        ∨ (c = .orderReplyTimeout (unitNumber u) ∧ s.units[u].inFlight.isSome = true) →
      ∃ t, exec c s = .next t
        ∧ t.units[u].state = .missing
        ∧ t.units[u].stage = s.units[u].lastReport.bind (fun r => r.motion.stage)
        ∧ (c = .unitPollTimeout (unitNumber u) → t.units[u].pollTimer = none
            ∧ t.units[u].miss = min 255 (s.units[u].miss + 1) ∧ t.units[u].inFlight = s.units[u].inFlight)
        ∧ (c = .orderReplyTimeout (unitNumber u) → t.units[u].inFlight = none
            ∧ (s.units[u].pendingOrder = some .halt → holdsOrder u .halt t))
        ∧ t.units[u].trip = none ∧ t.units[u].minRun = .idle ∧ t.units[u].restTimer = none
        ∧ t.units[u].confirmTimer = none
        ∧ (∀ e ∈ t.ring.orders, holdsSlot u e = true → isHalt e = true ∨ e.sending = true)
        ∧ othersStayQueued u s t
        ∧ isPending .unitSilent t = true ∧ (DispatchLaws s → attentionSent .unitSilent s t)
        ∧ releasedBy u t ∧ s.evalDue < t.evalDue ∧ restOfUnits u s t
        ∧ unchangedBut (moving ++ [.orders]) s t)
  ∧ ∀ (u : UnitId) (s : State), s.ready = true → OrdersLaw s → mayGoMissing s.units[u].state = false →
      s.units[u].inFlight.isSome = true →
      ∃ t, exec (.orderReplyTimeout (unitNumber u)) s = .next t
        ∧ t.units[u] = { s.units[u] with inFlight := none, pendingOrder := none }
        ∧ t.ring.orders.map OrderEntry.unsent = ordersJoined u s.units[u].pendingOrder s
        ∧ restOfUnits u s t ∧ unchangedBut [.units, .orders, .line] s t

/-- A confirm timer's expiry declares the failure of the state it runs in: a HALT is issued and the unit goes TRIPPED
with START, RAISE, LOWER or STOP FAILED, leaving service; a HALT queued before, an order on the line and the other
units' orders stay, and UNIT TRIPPED is announced as it becomes pending (R75, R78, R80, R81, R82, R180; the room of the
ATTENTION is deduced, log entry 7, and which entry gives its place up to the HALT in a full queue is the model's choice,
log entry 15). -/
def Obligations.ConfirmTimersDeclareFailures : Prop :=
  ∀ (c : Instr) (u : UnitId) (st : UnitState) (why : TripReason) (s : State), s.ready = true →
    (c = .startConfirmExpiry (unitNumber u) ∧ st = .starting ∧ why = .startFailed)
      ∨ (c = .restageConfirmExpiry (unitNumber u) ∧ st = .raising ∧ why = .raiseFailed)
      ∨ (c = .restageConfirmExpiry (unitNumber u) ∧ st = .lowering ∧ why = .lowerFailed)
      ∨ (c = .stopConfirmExpiry (unitNumber u) ∧ st = .stopping ∧ why = .stopFailed) →
    s.units[u].state = st → s.units[u].confirmTimer.isSome = true →
    ∃ t, exec c s = .next t
      ∧ t.units[u].state = .tripped ∧ t.units[u].stage = none ∧ t.units[u].trip = some why
      ∧ t.units[u].confirmTimer = none ∧ t.units[u].minRun = .idle ∧ t.units[u].restTimer = none
      ∧ t.units[u].inFlight = s.units[u].inFlight ∧ t.units[u].lastReport = s.units[u].lastReport
      ∧ holdsOrder u .halt t
      ∧ (∀ e ∈ t.ring.orders, holdsSlot u e = true → isHalt e = true ∨ e.sending = true)
      ∧ othersStayQueued u s t
      ∧ isPending .unitTripped t = true ∧ (DispatchLaws s → attentionSent .unitTripped s t)
      ∧ releasedBy u t ∧ s.evalDue < t.evalDue ∧ restOfUnits u s t
      ∧ unchangedBut (moving ++ [.orders]) s t

/-- The rest timer's expiry makes its unit READY and the minimum run timer's sets it elapsed; the spacing timer's
frees the allowance; each is a trigger. The horn rearm timer's sets the horn-required flag and stays idle (R76,
R79, R96, R150; that an expiry which R100 names twice counts one trigger is deduced, log entry 6). -/
def Obligations.RestRunSpacingAndRearmRunOut : Prop :=
  (∀ (u : UnitId) (s : State), s.ready = true → TimersLaw s → DispatchLaws s → s.units[u].restTimer.isSome = true →
    ∃ t, exec (.restTimerExpiry (unitNumber u)) s = .next t
      ∧ t.units[u].state = .ready ∧ t.units[u].stage = none ∧ t.units[u].restTimer = none
      ∧ t.units[u].lastReport = s.units[u].lastReport ∧ t.units[u].miss = s.units[u].miss
      ∧ t.evalDue = s.evalDue + 1 ∧ restOfUnits u s t ∧ unchangedBut [.units, .estimates, .evaluations] s t)
  ∧ (∀ (u : UnitId) (d : Nat) (s : State), s.ready = true → s.units[u].minRun = .running d →
      ∃ t, exec (.minimumRunExpiry (unitNumber u)) s = .next t
        ∧ t.units[u] = { s.units[u] with minRun := .elapsed }
        ∧ t.evalDue = s.evalDue + 1 ∧ restOfUnits u s t ∧ unchangedBut [.units, .evaluations] s t)
  ∧ (∀ s : State, s.ready = true → s.engine.spacingTimer.isSome = true →
      ∃ t, exec .spacingTimerExpiry s = .next t
        ∧ t.engine.spacingTimer = none
        ∧ t.engine.allowance = (if s.engine.allowance = .spacing then .free else s.engine.allowance)
        ∧ t.evalDue = s.evalDue + 1 ∧ unchangedBut [.allowance, .spacing, .evaluations] s t)
  ∧ ∀ s : State, s.ready = true → s.horn.rearmTimer.isSome = true →
      ∃ t, exec .hornRearmExpiry s = .next t
        ∧ t.horn.required = true ∧ t.horn.rearmTimer = none ∧ unchangedBut [.hornRequired, .rearm] s t

/-- An ENROL TAKE from the offered unit's drive enrols the unit with the identity it carries: its record, its runtime
state afresh in UNKNOWN, its estimate, a poll at once and a trigger; no offer for it waits any longer, whether or not
an enrolment is under way. A unit that held the identity loses its enrolment. An enrolment under way goes on with the
lowest-numbered VACANT unit, whose offer takes a place of its own, or ends (R39, R63, R64, R65, R67, R165; that in a
full queue an enrolment telegram that waits gives its place up to it is the model's choice, log entry 15). -/
def Obligations.EnrolTakeEnrolsTheUnit : Prop :=
  ∀ (u : UnitId) (p : List Octet) (s : State), s.ready = true → s.enrol.offered = some u → p.length = 4 →
    s.units[u].state = .vacant →
    ∃ t, exec (.enrolTake (driveAddress u) p) s = .next t
      ∧ t.store.units[u] = { s.store.units[u] with
          enrolled := true, identity := some (BitVec.ofNat 32 (natOf p)) }
      ∧ t.units[u] = { UnitRt.fresh .unknown with est := estimateFor t u }
      ∧ (u ∈ t.ring.unitDue ∨ ∃ e ∈ t.ring.polls, e.target = .unit u ∧ e.live = true)
      ∧ (match holderOf s u (BitVec.ofNat 32 (natOf p)) with
          | none => restOfUnits u s t ∧ (∀ v : UnitId, v ≠ u → t.store.units[v] = s.store.units[v])
          | some k =>
            t.store.units[k] = { s.store.units[k] with enrolled := false, identity := none }
            ∧ t.units[k] = UnitRt.fresh (if s.store.units[k].inService = true then .vacant else .outOfService)
            ∧ (∀ e ∈ t.ring.orders, holdsSlot k e = false) ∧ k ∉ t.engine.stack
            ∧ ∀ v : UnitId, v ≠ u → v ≠ k →
                t.units[v] = s.units[v] ∧ t.store.units[v] = s.store.units[v])
      ∧ (if s.enrol.state = .idle then t.enrol = ⟨.idle, none, s.enrol.timer⟩
        else
          match lowestVacant t with
          | some v => t.enrol = ⟨.offering, some v, none⟩
              ∧ ∃ e ∈ t.ring.orders, e.item = .offer v
          | none => t.enrol = ⟨.idle, none, none⟩ ∧ isPending .enrolmentDone t = true)
      ∧ (∀ e ∈ t.ring.orders, e.item = .offer u → e.sending = true)
      ∧ s.evalDue < t.evalDue
      ∧ t.store.station = s.store.station ∧ t.store.gauges = s.store.gauges ∧ t.store.river = s.store.river
      ∧ t.store.basins = s.store.basins ∧ t.store.types = s.store.types
      ∧ unchangedBut (moving ++ [.store, .enrolment, .orders, .polls, .due, .delivered]) s t

/-- In SETUP an ENROL START with no enrolment under way offers the lowest-numbered VACANT unit, or ends at once with
ENROLMENT DONE; an ENROL RELEASE takes every unit's enrolment and broadcasts the release; each is refused with
MODE outside SETUP and with BUSY while the enrolment, or for a release a stopping unit or an order, is in its
way. The offer and the release take a place of their own at the tail of the order queue. A returning offer and the 2 s
timer end an enrolment, ENROLMENT DONE being announced (R62, R63, R65, R66, R67, R165, R180; that in a full queue an
enrolment telegram that waits gives its place up to them is the model's choice, log entry 15; the room of ENROLMENT
DONE's ATTENTION is deduced, log entry 7). -/
def Obligations.EnrolmentsBeginAndEnd : Prop :=
  (∀ s : State, takes kindEnrolStart [0#8] s →
    ∃ t, exec (.enrolStart [0#8]) s = .next t
      ∧ if s.station.mode ≠ .setup then isRefused kindEnrolStart .mode s t ∧ unchangedBut answering s t
        else if s.enrol.state ≠ .idle then isRefused kindEnrolStart .busy s t ∧ unchangedBut answering s t
        else
          isAccepted kindEnrolStart s t
          ∧ (match lowestVacant s with
              | some u => t.enrol = ⟨.offering, some u, none⟩
                  ∧ (∃ e ∈ t.ring.orders, e.item = .offer u)
                  ∧ (s.ring.orders.length < 16 → t.ring.orders.map OrderEntry.unsent
                      = s.ring.orders.map OrderEntry.unsent ++ [newEntry (.offer u) s.ring.orders])
                  ∧ t.ring.orders.map OrderEntry.unsent
                    = (withPlace s.ring.orders).map OrderEntry.unsent ++ [newEntry (.offer u) s.ring.orders]
                  ∧ unchangedBut ([.enrolment, .orders] ++ answering) s t
              | none => t.enrol = ⟨.idle, s.enrol.offered, none⟩ ∧ isPending .enrolmentDone t = true
                  ∧ unchangedBut ([.enrolment] ++ latching ++ answering) s t))
  ∧ (∀ s : State, takes kindEnrolStart [1#8] s →
      ∃ t, exec (.enrolRelease [1#8]) s = .next t
        ∧ if s.station.mode ≠ .setup then isRefused kindEnrolStart .mode s t ∧ unchangedBut answering s t
          else if s.enrol.state ≠ .idle ∨ (∃ u : UnitId, s.units[u].state = .stopping ∨ ordersFree s u = false) then
            isRefused kindEnrolStart .busy s t ∧ unchangedBut answering s t
          else
            isAccepted kindEnrolStart s t
            ∧ (∀ u : UnitId,
                if s.store.units[u].enrolled = true then
                  t.store.units[u] = { s.store.units[u] with enrolled := false, identity := none }
                  ∧ t.units[u] = UnitRt.fresh (if s.store.units[u].inService = true then .vacant else .outOfService)
                else t.store.units[u] = s.store.units[u] ∧ t.units[u] = s.units[u])
            ∧ t.enrol = { s.enrol with offered := none }
            ∧ (∃ e ∈ t.ring.orders, e.item = .release)
            ∧ t.ring.orders.map OrderEntry.unsent
              = (if s.ring.orders.length < 16 then s.ring.orders else withPlace s.ring.orders).map OrderEntry.unsent
                ++ [newEntry .release s.ring.orders]
            ∧ (s.ring.orders.length < 16 → ∀ e ∈ s.ring.orders, isEnrolment e = true → stillQueued e t)
            ∧ t.store.station = s.store.station ∧ t.store.gauges = s.store.gauges ∧ t.store.river = s.store.river
            ∧ t.store.basins = s.store.basins ∧ t.store.types = s.store.types
            ∧ unchangedBut (moving ++ answering ++ [.store, .enrolment, .orders, .polls, .due]) s t)
  ∧ (∀ (c : Instr) (s : State), s.ready = true →
    (c = .enrolOfferReturn ∧ s.enrol.state ≠ .idle) ∨ (c = .enrolmentTimerExpiry ∧ s.enrol.timer.isSome = true) →
    ∃ t, exec c s = .next t ∧ t.enrol = ⟨.idle, s.enrol.offered, none⟩ ∧ isPending .enrolmentDone t = true
      ∧ attentionSent .enrolmentDone s t
      ∧ restOfConditions [.enrolmentDone] s t ∧ unchangedBut ([.enrolment, .delivered] ++ latching) s t)
  ∧ ∀ s : State, s.ready = true → s.enrol.state = .idle →
      ∃ t, exec .enrolOfferReturn s = .next t ∧ unchangedBut [.delivered] s t

/-! ## The Limits Unit -/

/-- A SUPPLY LIMIT whose payload has not 4 octets has no effect: it leaves the delivered telegrams and changes nothing
else (R128). -/
def Obligations.MalformedSupplyLimitHasNoEffect : Prop :=
  ∀ (p : List Octet) (s : State), s.ready = true → p.length ≠ 4 →
    ∃ t, exec (.supplyLimit p) s = .next t
      ∧ t.ring.delivered = s.ring.delivered.eraseP (sameTelegram kindSupplyLimit addrSupply p)
      ∧ unchangedBut [.delivered] s t

/-- A well-formed SUPPLY LIMIT sets the supply limit, clamped to 1000000 kW, makes the supply CURRENT, arms the
silence timer again and ends SUPPLY SILENT; the silence timer's expiry sets the fallback budget, makes the supply
SILENT, leaves the timer idle and makes SUPPLY SILENT pending, its ATTENTION sent or dropped. Each forms B again, a
change being a trigger (R125, R127, R129, R180; the room of the ATTENTION is deduced, log entry 7). -/
def Obligations.SupplyLimitAndSilenceAreTaken : Prop :=
  (∀ (a b c d : Octet) (s : State), s.ready = true →
    ∃ t, exec (.supplyLimit [a, b, c, d]) s = .next t
      ∧ t.limits = { s.limits with
          supplyLimit := min (a ++ b ++ c ++ d : BitVec 32).toNat 1000000
          supplyState := .current
          silenceTimer := some s.store.station.silenceTime
          budget := min s.store.station.ceiling (min (a ++ b ++ c ++ d : BitVec 32).toNat 1000000) }
      ∧ t.evalDue = s.evalDue + (if t.limits.budget = s.limits.budget then 0 else 1)
      ∧ (s.limits.supplyState = .silent → isPending .supplySilent t = false)
      ∧ (s.limits.supplyState ≠ .silent → isPending .supplySilent t = isPending .supplySilent s)
      ∧ restOfConditions [.supplySilent] s t
      ∧ t.ring.delivered = s.ring.delivered.eraseP (sameTelegram kindSupplyLimit addrSupply [a, b, c, d])
      ∧ unchangedBut [.delivered, .limits, .conditions, .evaluations] s t)
  ∧ ∀ s : State, s.ready = true → s.limits.silenceTimer.isSome = true →
      ∃ t, exec .supplySilenceExpiry s = .next t
        ∧ t.limits = { s.limits with
            supplyLimit := s.store.station.fallbackBudget
            supplyState := .silent
            silenceTimer := none
            budget := min s.store.station.ceiling s.store.station.fallbackBudget }
        ∧ t.evalDue = s.evalDue + (if t.limits.budget = s.limits.budget then 0 else 1)
        ∧ isPending .supplySilent t = true ∧ restOfConditions [.supplySilent] s t ∧ attentionSent .supplySilent s t
        ∧ unchangedBut ([.limits, .evaluations] ++ latching) s t

/-- A PERMIT SET sets the permit value, clamped to 500000 L/s, whatever the hold; a PERMIT HOLD and a PERMIT RELEASE
change the hold, and HOLD ACTIVE with it, and do nothing when it stands so already. The cap is formed again, a
change being a trigger, and HOLD ACTIVE is announced. A payload of a wrong length has no effect (R133, R134, R135,
R136, R180; the room of the ATTENTION is deduced, log entry 7). -/
def Obligations.PermitTelegramsAreTaken : Prop :=
  (∀ (a b c d : Octet) (s : State), s.ready = true →
    ∃ t, exec (.permitSet [a, b, c, d]) s = .next t
      ∧ t.limits = { s.limits with
          permit := min (a ++ b ++ c ++ d : BitVec 32).toNat 500000
          permitSource := .permitNode
          cap := if s.limits.hold = true then 0 else min (a ++ b ++ c ++ d : BitVec 32).toNat 500000 }
      ∧ t.evalDue = s.evalDue + (if t.limits.cap = s.limits.cap then 0 else 1)
      ∧ unchangedBut [.delivered, .limits, .evaluations] s t)
  ∧ (∀ s : State, s.ready = true → s.limits.hold = false →
      ∃ t, exec (.permitHold []) s = .next t
        ∧ t.limits = { s.limits with hold := true, cap := 0 }
        ∧ t.evalDue = s.evalDue + (if t.limits.cap = s.limits.cap then 0 else 1)
        ∧ isPending .holdActive t = true ∧ restOfConditions [.holdActive] s t ∧ attentionSent .holdActive s t
        ∧ unchangedBut ([.delivered, .limits, .evaluations] ++ latching) s t)
  ∧ (∀ s : State, s.ready = true → s.limits.hold = true →
      ∃ t, exec (.permitRelease []) s = .next t
        ∧ t.limits = { s.limits with hold := false, cap := s.limits.permit }
        ∧ t.evalDue = s.evalDue + (if t.limits.cap = s.limits.cap then 0 else 1)
        ∧ isPending .holdActive t = false ∧ restOfConditions [.holdActive] s t
        ∧ unchangedBut [.delivered, .limits, .evaluations, .conditions] s t)
  ∧ ∀ (c : Instr) (p : List Octet) (s : State), s.ready = true →
      (c = .permitSet p ∧ p.length ≠ 4) ∨ (c = .permitHold p ∧ (p ≠ [] ∨ s.limits.hold = true))
        ∨ (c = .permitRelease p ∧ (p ≠ [] ∨ s.limits.hold = false)) →
      ∃ t, exec c s = .next t ∧ unchangedBut [.delivered] s t

/-! ## The Dispatch Engine -/

/-- Stages 3 and 4 of an evaluation end within the limits: the committed power at or below the budget, or nothing left
to shed, no candidate and the stack empty; the permit-counted discharge at or below the cap, or no unit left on the
stack whose basin is not in override. Within the limits they shed nothing. Above the budget the candidate is given up
first, then the top of the stack is shed, and so on with what is left; above the cap the topmost unit whose basin is not
in override is shed. A unit that is shed is turned down by RESTAGE LOW where it runs at HIGH and its type has a LOW that
delivers, and stopped otherwise, its minimum run not considered. In SETUP, where the stack is empty and there is no
candidate, they shed nothing. Their flags say which (R105, R106, R107, R116). -/
def Obligations.SheddingEndsWithinTheLimits : Prop :=
  (∀ s : State, DispatchLaws s → EstimatesCurrent s →
    s.station.mode ≠ .setup ∨ (s.engine.stack = [] ∧ s.engine.candidate = none) →
    (let t := (budgetStage ⟨s, []⟩).st;
      (committedPower t ≤ t.limits.budget ∨ (t.engine.stack = [] ∧ t.engine.candidate = none))
      ∧ t.engine.budgetUnmet = decide (t.limits.budget < committedPower t)
      ∧ t.limits = s.limits ∧ t.basins = s.basins ∧ t.engine.permitUnmet = s.engine.permitUnmet)
    ∧ let t := (permitStage ⟨s, []⟩).st;
      (permitDischarge t ≤ t.limits.cap ∨ ∀ u ∈ t.engine.stack, t.basins[basinOfUnit t u].override = true)
      ∧ t.engine.permitUnmet = decide (t.limits.cap < permitDischarge t)
      ∧ t.limits = s.limits ∧ t.basins = s.basins ∧ t.engine.budgetUnmet = s.engine.budgetUnmet)
  ∧ (∀ p : Pass,
      (committedPower p.st ≤ p.st.limits.budget → unchangedBut (.unmet :: announcing) p.st (budgetStage p).st)
      ∧ (permitDischarge p.st ≤ p.st.limits.cap → unchangedBut (.unmet :: announcing) p.st (permitStage p).st))
  ∧ (∀ (c : Candidate) (p : Pass), DispatchLaws p.st → p.st.engine.candidate = some c → c.unit ∉ p.lapsed →
      p.st.limits.budget < committedPower p.st →
      let q := askAbandon c.unit p
      givenUp c.unit p.st q.st ∧ (budgetStage p).st = (budgetStage q).st)
  ∧ (∀ (u : UnitId) (low high : List UnitId) (p : Pass), DispatchLaws p.st → EstimatesCurrent p.st →
      p.st.station.mode ≠ .setup → (∀ c, p.st.engine.candidate = some c → c.unit ∈ p.lapsed) →
      p.st.engine.stack = low ++ u :: high → u ∉ p.lapsed → (∀ v ∈ high, v ∈ p.lapsed) →
      p.st.limits.budget < committedPower p.st →
      let q := shed u p
      shedAs u p.st q.st ∧ (budgetStage p).st = (budgetStage q).st)
  ∧ (∀ (u : UnitId) (low high : List UnitId) (p : Pass), DispatchLaws p.st → EstimatesCurrent p.st →
      p.st.station.mode ≠ .setup → p.st.engine.stack = low ++ u :: high → u ∉ p.lapsed →
      p.st.basins[basinOfUnit p.st u].override = false →
      (∀ v ∈ high, v ∈ p.lapsed ∨ p.st.basins[basinOfUnit p.st v].override = true) →
      p.st.limits.cap < permitDischarge p.st →
      let q := shed u p
      shedAs u p.st q.st ∧ (permitStage p).st = (permitStage q).st)
  ∧ ∀ s : State, DispatchLaws s → s.station.mode = .setup → s.engine.stack = [] → s.engine.candidate = none →
      s.ready = true → 0 < s.evalDue →
      ∃ t, exec .evaluation s = .next t
        ∧ t.engine.budgetUnmet = decide (s.limits.budget < committedPower s)
        ∧ t.engine.permitUnmet = decide (s.limits.cap < permitDischarge s)
        ∧ unchangedBut (.unmet :: announcing) s t

/-- An evaluation in AUTO that finds nothing to stop, shed or start, the station idle, every drive that is polled at
rest, every basin in use seen at step 0 below its wake level and no condition of code 1 to 6 pending, enters
standby: both poll timers are armed with the standby interval and nothing else changes. Standby ends with a report of
RUN LOW or RUN HIGH from any enrolled unit's drive, and whatever command makes a condition of code 1 to 6 pending or
sets a basin's at-wake flag ends it: it is OFF, the poll timers run with their other intervals, the horn-required flag
is set and an evaluation is due; while it is OFF such a report leaves the poll timers and the horn as they are (R101,
R112, R151, R153, R155). -/
def Obligations.QuietEvaluationEntersStandby : Prop :=
  (∀ s : State, s.ready = true → 0 < s.evalDue → s.station.mode = .auto → s.station.standby = false →
    DispatchLaws s → TargetLaw s → s.engine.stack = [] → isIdle s = true →
    committedPower s ≤ s.limits.budget → permitDischarge s ≤ s.limits.cap →
    s.engine.budgetUnmet = false → s.engine.permitUnmet = false →
    (∀ u : UnitId, s.store.units[u].enrolled = true → reportsRun s.units[u] = false) →
    (∀ b : BasinId, s.store.basins[b].inUse = true →
      s.basins[b].status = .voted ∧ s.basins[b].step = 0 ∧ s.basins[b].atWake = false) →
    (∀ c : Condition, c.code ≤ 6 → isPending c s = false) →
    ∃ t, exec .evaluation s = .next t
      ∧ t.station.standby = true
      ∧ t.pollTimers = ⟨some s.store.station.standbyPollInterval, some s.store.station.standbyPollInterval⟩
      ∧ t.evalDue = s.evalDue - 1 ∧ unchangedBut [.standby, .pollTimers, .evaluations] s t)
  ∧ (∀ (u : UnitId) (src : Octet) (p : List Octet) (r : Report) (s : State), s.ready = true →
      enrolledAt s src = some u → unitReportOf p = some r → r.motion = .runLow ∨ r.motion = .runHigh →
      ∃ t, exec (.unitReport src p) s = .next t
        ∧ if s.station.standby = true then standbyEnded s t ∧ s.evalDue < t.evalDue
          else t.station.standby = false ∧ t.pollTimers = s.pollTimers ∧ t.horn.required = s.horn.required)
  ∧ ∀ (c : Instr) (s : State), ofBoard c = false → (∀ pins, c ≠ .restartRelayClose pins) → s.station.standby = true →
      ∀ t : State, exec c s = .next t →
      (∃ k : Condition, k.code ≤ 6 ∧ isPending k s = false ∧ isPending k t = true)
        ∨ (∃ b : BasinId, s.basins[b].atWake = false ∧ t.basins[b].atWake = true) →
      standbyEnded s t ∧ (c = .evaluation ∨ s.evalDue < t.evalDue)

/-- An evaluation takes the stages of its mode in their order, and at most one start or raise, in AUTO alone and at its
sixth stage alone: no other stage brings a unit into CONFIRMING or RAISING, and that stage takes none with a candidate,
with the allowance HELD or in SPACING, or with every basin in use delivering its target. The first stage stops every
unit that is endangered, and no other. The second abandons a candidate that fails its re-check. The fifth stops what a
basin of target 0 no longer needs and turns down or stops the topmost unit of one that delivers enough without it, past
its minimum run. The sixth takes the raise, else the start, of the basin in deficit that ranks first among those with an
option: the lowest-numbered raise option, or the unit of the lowest start count, then number, that fits at HIGH, else
LOW; and none where no basin has one (R101, R102, R103, R104, R108, R109, R110, R111, R113, R116). -/
def Obligations.EvaluationStartsAtMostOne : Prop :=
  (∀ s : State, DispatchLaws s → ∀ t : State, exec .evaluation s = .next t →
    (∀ u v : UnitId,
      ((t.units[u].state = .confirming ∨ t.units[u].state = .raising) ∧ t.units[u].state ≠ s.units[u].state) →
      ((t.units[v].state = .confirming ∨ t.units[v].state = .raising) ∧ t.units[v].state ≠ s.units[v].state) →
      u = v)
    ∧ ∀ u : UnitId,
      ((t.units[u].state = .confirming ∨ t.units[u].state = .raising) ∧ t.units[u].state ≠ s.units[u].state) →
      s.station.mode = .auto ∧ s.engine.allowance ≠ .spacing
      ∧ ∃ p : Pass,
        p = surplus (permitStage (budgetStage (candidateRecheck
          (protectiveStops ⟨{ s with evalDue := s.evalDue - 1 }, []⟩))))
        ∧ p.st.engine.candidate = none ∧ p.st.engine.allowance = .free
        ∧ p.st.store.basins[basinOfUnit p.st u].inUse = true
        ∧ committedDelivery p.st (basinOfUnit p.st u) < p.st.basins[basinOfUnit p.st u].target
        ∧ (p.st.basins[basinOfUnit p.st u].status = .voted ∨ p.st.basins[basinOfUnit p.st u].status = .held
            ∨ p.st.basins[basinOfUnit p.st u].status = .blind))
  ∧ (∀ p : Pass,
      (p.st.engine.candidate ≠ none ∨ p.st.engine.allowance ≠ .free
        ∨ ∀ b : BasinId, p.st.store.basins[b].inUse = true →
            p.st.basins[b].target ≤ committedDelivery p.st b) → deficit p = p)
  ∧ (∀ (f : Pass → Pass) (p : Pass) (u : UnitId),
      f ∈ [protectiveStops, candidateRecheck, budgetStage, permitStage, surplus] →
      ((f p).st.units[u].state = .confirming ∨ (f p).st.units[u].state = .raising) →
      (f p).st.units[u].state = p.st.units[u].state)
  ∧ (∀ s : State, s.ready = true → 0 < s.evalDue →
      let p := protectiveStops ⟨{ s with evalDue := s.evalDue - 1 }, []⟩
      exec .evaluation s = .next (match s.station.mode with
        | .auto => standbyCheck (deficit (surplus (permitStage (budgetStage (candidateRecheck p))))).st
        | .manual => (permitStage (budgetStage (candidateRecheck p))).st
        | .setup => (permitStage (budgetStage p)).st))
  ∧ (∀ (u : UnitId) (s : State), s.ready = true → 0 < s.evalDue → endangered s u →
      ∃ t, exec .evaluation s = .next t ∧ askedToStop u t)
  ∧ (∀ (u : UnitId) (s : State),
      let t := (protectiveStops ⟨s, []⟩).st
      (endangered s u → askedToStop u t) ∧ (¬ endangered s u → t.units[u] = s.units[u]))
  ∧ (∀ (c : Candidate) (s : State), DispatchLaws s → s.engine.candidate = some c →
      let t := (candidateRecheck ⟨s, []⟩).st
      if recheck s c = true then t = s
      else
        t.units[c.unit].state = .ready ∧ t.units[c.unit].stage = none ∧ t.engine.allowance = .free
        ∧ t.engine.candidate = none ∧ t.horn.line = false ∧ t.horn.warningTimer = none
        ∧ t.horn.required = s.horn.required ∧ t.ring = s.ring ∧ t.evalDue = s.evalDue ∧ restOfUnits c.unit s t)
  ∧ (∀ (u : UnitId) (p : Pass),
      let s := p.st
      let b := basinOfUnit s u
      s.store.basins[b].inUse = true → s.basins[b].status ≠ .unseen → s.basins[b].target = 0 → u ∉ p.lapsed →
      let t := (surplus p).st
      if s.units[u].state = .running ∧ s.units[u].minRun = .elapsed then askedToStop u t
      else t.units[u] = s.units[u])
  ∧ (∀ (u : UnitId) (low high : List UnitId) (p : Pass),
      let s := p.st
      let b := basinOfUnit s u
      s.station.mode ≠ .setup → s.store.basins[b].inUse = true → s.basins[b].status ≠ .unseen →
      0 < s.basins[b].target → s.engine.stack = low ++ u :: high → u ∉ p.lapsed →
      (∀ v ∈ high, basinOfUnit s v = b → v ∈ p.lapsed) → (typeRecOf s u).inUse = true →
      let t := (surplus p).st
      (if s.units[u].state = .running ∧ s.units[u].minRun = .elapsed then
        if s.units[u].stage = some .high ∧ (typeRecOf s u).stageCount = 2 ∧ 0 < qAt s u .low
            ∧ s.basins[b].target + qAt s u .high ≤ committedDelivery s b + qAt s u .low then
          t.units[u].state = .lowering ∧ t.units[u].stage = some .low
          ∧ t.units[u].confirmTimer = some (typeRecOf s u).startConfirm
          ∧ (ordersFree s u = true → holdsOrder u (.restage .low) t)
        else if s.basins[b].target + atStage s.units[u].stage (qAt s u) ≤ committedDelivery s b then askedToStop u t
        else t.units[u] = s.units[u]
      else t.units[u] = s.units[u])
      ∧ ∀ v : UnitId, v ≠ u → basinOfUnit s v = b → t.units[v] = s.units[v])
  ∧ (∀ (u : UnitId) (p : Pass), DispatchLaws p.st → TargetLaw p.st → takesTurn p.st (basinOfUnit p.st u) →
      isRaiseOption p.st u → raiseFits p.st u →
      let t := (deficit p).st
      t.units[u].state = .raising ∧ t.units[u].stage = some .high ∧ t.units[u].minRun = p.st.units[u].minRun
      ∧ t.units[u].confirmTimer = some (typeRecOf p.st u).startConfirm ∧ holdsOrder u (.restage .high) t
      ∧ t.engine.allowance = .held u .raise ∧ t.engine.candidate = none ∧ t.engine.stack = p.st.engine.stack
      ∧ restOfUnits u p.st t)
  ∧ (∀ (u : UnitId) (x : Stage) (p : Pass), DispatchLaws p.st → TargetLaw p.st →
      takesTurn p.st (basinOfUnit p.st u) →
      (∀ v : UnitId, basinOfUnit p.st v = basinOfUnit p.st u → isRaiseOption p.st v → ¬ raiseFits p.st v) →
      isStartable p.st u → startFits p.st u x → (x = .low → ¬ startFits p.st u .high) →
      (∀ v : UnitId, basinOfUnit p.st v = basinOfUnit p.st u → isStartable p.st v →
        p.st.store.units[v].startCount < p.st.store.units[u].startCount
          ∨ (p.st.store.units[v].startCount = p.st.store.units[u].startCount ∧ v < u) →
        ∀ y : Stage, ¬ startFits p.st v y) →
      let t := (deficit p).st
      t.units[u].state = .confirming ∧ t.units[u].stage = some x ∧ t.engine.allowance = .held u .start
      ∧ t.engine.candidate = some ⟨u, x, confirmationGauges p.st (basinOfUnit p.st u)⟩
      ∧ t.engine.stack = p.st.engine.stack ∧ restOfUnits u p.st t)
  ∧ ∀ p : Pass, (∀ b : BasinId, wantsMore p.st b → ¬ hasOption p.st b) → deficit p = p

/-- The candidate's way on. As CONFIRMING ends, a candidate that passes its re-check enters WARNING with the horn
line active for the warning period while the horn-required flag is set, and is issued START while it is clear; as
the warning period ends the line goes inactive, the flag is cleared, and START is issued. A candidate that fails
the re-check is abandoned at either end. The re-check asks for the basin in deficit, in AUTO alone, and not dry, a
discharge above 0 at the stage chosen, P_c within B, and room under the cap or the emergency allowance (R104, R115,
R116, R117, R148). -/
def Obligations.CandidateGoesOn : Prop :=
  (∀ (c : Candidate) (s : State),
    recheck s c = true ↔
      (s.station.mode = .auto →
        committedDelivery s s.store.units[c.unit].basin < s.basins[s.store.units[c.unit].basin].target)
      ∧ s.basins[s.store.units[c.unit].basin].dry = false
      ∧ 0 < ((stageEst s c.unit c.stage).map StageEst.q).getD 0
      ∧ committedPower s ≤ s.limits.budget
      ∧ if s.basins[s.store.units[c.unit].basin].override = true then
          committedDelivery s s.store.units[c.unit].basin + ((stageEst s c.unit c.stage).map StageEst.q).getD 0
            ≤ s.store.basins[s.store.units[c.unit].basin].emergency
        else permitDischarge s + ((stageEst s c.unit c.stage).map StageEst.q).getD 0 ≤ s.limits.cap)
  ∧ (∀ (c : Candidate) (s : State), s.ready = true → DispatchLaws s → s.engine.candidate = some c →
    s.units[c.unit].state = .confirming → c.confirm = [] → s.station.mode ≠ .setup →
    ordersFree s c.unit = true → (typeRecOf s c.unit).inUse = true →
    ∃ t, exec .confirmingEnd s = .next t
      ∧ (if recheck s c = true then
          if s.horn.required = true then
            t.units[c.unit].state = .warning ∧ t.units[c.unit].stage = some c.stage
            ∧ t.horn = { s.horn with line := true, warningTimer := some s.store.station.hornWarning }
            ∧ t.engine = s.engine ∧ t.ring = s.ring ∧ t.store = s.store ∧ restOfUnits c.unit s t
          else startedAs c s t ∧ t.horn.required = false
        else abandonedAs c s t ∧ t.ring = s.ring ∧ t.horn.required = s.horn.required)
      ∧ unchangedBut ([.store, .orders, .line, .units, .estimates, .stack, .allowance, .candidate, .hornLine, .idle,
          .rearm, .evaluations]) s t)
  ∧ ∀ (c : Candidate) (s : State), s.ready = true → DispatchLaws s → s.engine.candidate = some c →
      s.horn.warningTimer.isSome = true → s.station.mode ≠ .setup → ordersFree s c.unit = true →
      (typeRecOf s c.unit).inUse = true →
      ∃ t, exec .warningTimerExpiry s = .next t
        ∧ t.horn.line = false ∧ t.horn.warningTimer = none ∧ t.horn.required = false
        ∧ (if recheck s c = true then startedAs c s t else abandonedAs c s t ∧ t.ring = s.ring)
        ∧ unchangedBut ([.store, .orders, .line, .units, .estimates, .stack, .allowance, .candidate, .hornLine,
            .hornRequired, .idle, .rearm, .evaluations]) s t

/-! ## Table writes and reads -/

/-- The station record: first power's values; and a write of it is refused with UNKNOWN for a record number other
than 0, then with MODE outside SETUP, then with RANGE when a field lies outside its range, and otherwise replaces
the record and gives the Limits Unit its new fields, B and C formed once each and their changes alone being
triggers (R131, R136, R175). -/
def Obligations.StationRecordIsWritten : Prop :=
  State.reset.store.station
    = { startMode := .setup, replyTimeout := 100, gaugePollInterval := 5, standbyPollInterval := 60,
        unitPollInterval := 2, ceiling := 0, fallbackBudget := 0, silenceTime := 30, defaultPermit := 0,
        hornWarning := 30, hornRearm := 900, startSpacing := 20, threshold := 6 }
  ∧ ∀ (record : Octet) (octets : List Octet) (s : State), octets.length = 24 →
      takes kindTableWrite (1#8 :: record :: 1#8 :: octets) s →
      ∃ t, exec (.tableWriteStation (1#8 :: record :: 1#8 :: octets)) s = .next t
        ∧ if record ≠ 0#8 then isRefused kindTableWrite .unknown s t ∧ unchangedBut answering s t
          else if s.station.mode ≠ .setup then isRefused kindTableWrite .mode s t ∧ unchangedBut answering s t
          else
            ((∀ r, stationOf octets = some r → ¬ stationRanges r) →
              isRefused kindTableWrite .range s t ∧ unchangedBut answering s t)
            ∧ ∀ r, stationOf octets = some r → stationRanges r →
                isAccepted kindTableWrite s t
                ∧ t.store = { s.store with station := r }
                ∧ t.limits.supplyLimit = (if r.fallbackBudget ≠ s.store.station.fallbackBudget
                      ∧ s.limits.supplyState ≠ .current then r.fallbackBudget else s.limits.supplyLimit)
                ∧ t.limits.permit = (if r.defaultPermit ≠ s.store.station.defaultPermit
                      ∧ s.limits.permitSource = .default then r.defaultPermit else s.limits.permit)
                ∧ t.limits.budget = min r.ceiling t.limits.supplyLimit
                ∧ t.limits.cap = (if s.limits.hold = true then 0 else t.limits.permit)
                ∧ t.limits.supplyState = s.limits.supplyState ∧ t.limits.silenceTimer = s.limits.silenceTimer
                ∧ t.limits.permitSource = s.limits.permitSource ∧ t.limits.hold = s.limits.hold
                ∧ t.evalDue = s.evalDue + (if t.limits.budget = s.limits.budget then 0 else 1)
                    + (if t.limits.cap = s.limits.cap then 0 else 1)
                ∧ unchangedBut (answering ++ [.store, .limits, .evaluations]) s t

/-- A gauge record write that passes the checks replaces the record, returns the gauge to its starting values with its
poll ended, a demand poll for the candidate's confirmation too, votes the points before and after it and is a trigger;
a river write replaces the record, votes the river point and is a trigger; a unit write replaces type, basin and start
count alone and is a trigger. A write that fails is refused with the first reason and changes nothing: UNKNOWN for the
record number; for a gauge in use RANGE, ORDER, CAPACITY at a fourth gauge of a point, IN USE at a node address held
already; RANGE for the river; RANGE for a unit, then IN USE for another type or basin of an engaged one (R1, R2, R3,
R61, R114). -/
def Obligations.SingleRecordsAreWritten : Prop :=
  (∀ (g : GaugeId) (r : GaugeRec) (s : State),
    checkGauge s g r
      = if r.inUse = false then none
        else if ¬ gaugeRanges r then some .range
        else if r.validMax < r.validMin then some .order
        else if 3 ≤ (allGauges.countP fun h =>
            decide (h ≠ g) && s.store.gauges[h].inUse && decide (s.store.gauges[h].point = r.point)) then some .capacity
        else if ∃ h : GaugeId, h ≠ g ∧ s.store.gauges[h].inUse = true ∧ s.store.gauges[h].node = r.node then some .inUse
        else none)
  ∧ (∀ r : RiverRec,
      checkRiver r
        = if r.band ≤ 2000 ∧ r.holdTime ≤ 3600 ∧ -30000 ≤ r.fallback ∧ r.fallback ≤ 30000 then none else some .range)
  ∧ (∀ (u : UnitId) (w : UnitWrite) (s : State),
      checkUnit s u w
        = if ¬ ((1 ≤ w.type ∧ w.type ≤ 4) ∧ (1 ≤ w.basin ∧ w.basin ≤ 4) ∧ w.startCount ≤ 65535) then some .range
          else if (w.type ≠ s.store.units[u].type.val + 1 ∨ w.basin ≠ s.store.units[u].basin.val + 1)
              ∧ s.units[u].state ∈ engagedStates then some .inUse
          else none)
  ∧ (∀ (c : Instr) (record : Octet) (octets : List Octet) (s : State),
      (c = .tableWriteGauge (2#8 :: record :: 1#8 :: octets) ∧ octets.length = 12 ∧ numAt octets 0 1 ≤ 1
          ∧ 15 < record.toNat ∧ takes kindTableWrite (2#8 :: record :: 1#8 :: octets) s)
        ∨ (c = .tableWriteRiver (3#8 :: record :: 1#8 :: octets) ∧ octets.length = 6 ∧ record ≠ 0#8
          ∧ takes kindTableWrite (3#8 :: record :: 1#8 :: octets) s)
        ∨ (c = .tableWriteUnit (6#8 :: record :: 1#8 :: octets) ∧ octets.length = 10 ∧ numAt octets 0 1 ≤ 1
          ∧ numAt octets 7 1 ≤ 1 ∧ (record = 0#8 ∨ 12 < record.toNat)
          ∧ takes kindTableWrite (6#8 :: record :: 1#8 :: octets) s) →
      ∃ t, exec c s = .next t ∧ isRefused kindTableWrite .unknown s t ∧ unchangedBut answering s t)
  ∧ (∀ (g : GaugeId) (octets : List Octet) (s : State), octets.length = 12 → numAt octets 0 1 ≤ 1 →
    takes kindTableWrite (2#8 :: BitVec.ofNat 8 g.val :: 1#8 :: octets) s →
    ∃ t, exec (.tableWriteGauge (2#8 :: BitVec.ofNat 8 g.val :: 1#8 :: octets)) s = .next t
      ∧ match checkGauge s g (gaugeOf octets) with
        | some r => isRefused kindTableWrite r s t ∧ unchangedBut answering s t
        | none =>
          isAccepted kindTableWrite s t
          ∧ t.store = { s.store with gauges := s.store.gauges.set g.val (gaugeOf octets) }
          ∧ t.gauges[g] = GaugeRt.initial ∧ restOfGauges g s t
          ∧ t.ring.demandDue = s.ring.demandDue.erase g ∧ t.ring.backgroundDue = s.ring.backgroundDue.erase g
          ∧ (∀ e ∈ t.ring.polls, e.target = .gauge g → e.live = false)
          ∧ t.engine.candidate = (if s.gauges[g].poll = some .demand then
              s.engine.candidate.map fun c => { c with confirm := c.confirm.erase g } else s.engine.candidate)
          ∧ (∀ q : PointId, gaugePoint s.store.gauges[g] = some q ∨ gaugePoint (gaugeOf octets) = some q →
              pointInUse s q = true → s.points[q].published = s.points[q].cur → votedAt q s.points[q] t)
          ∧ s.evalDue < t.evalDue
          ∧ unchangedBut (answering ++ [.store, .gauges, .candidate, .polls, .due] ++ voting) s t)
  ∧ (∀ (octets : List Octet) (s : State), octets.length = 6 →
      takes kindTableWrite (3#8 :: 0#8 :: 1#8 :: octets) s →
      ∃ t, exec (.tableWriteRiver (3#8 :: 0#8 :: 1#8 :: octets)) s = .next t
        ∧ match checkRiver (riverOf octets) with
          | some r => isRefused kindTableWrite r s t ∧ unchangedBut answering s t
          | none =>
            isAccepted kindTableWrite s t ∧ t.store = { s.store with river := riverOf octets }
            ∧ (s.points[riverPoint].published = s.points[riverPoint].cur → votedAt riverPoint s.points[riverPoint] t)
            ∧ t.riverUse = riverLevelInUse t.store t.points[riverPoint].published
            ∧ s.evalDue < t.evalDue ∧ unchangedBut (answering ++ [.store] ++ voting) s t)
  ∧ ∀ (u : UnitId) (octets : List Octet) (s : State), octets.length = 10 → numAt octets 0 1 ≤ 1 →
      numAt octets 7 1 ≤ 1 → takes kindTableWrite (6#8 :: BitVec.ofNat 8 (unitNumber u) :: 1#8 :: octets) s →
      ∃ t, exec (.tableWriteUnit (6#8 :: BitVec.ofNat 8 (unitNumber u) :: 1#8 :: octets)) s = .next t
        ∧ match checkUnit s u (unitWriteOf octets) with
          | some r => isRefused kindTableWrite r s t ∧ unchangedBut answering s t
          | none =>
            isAccepted kindTableWrite s t
            ∧ (∃ (ty : TypeId) (b : BasinId), numAt octets 5 1 = ty.val + 1 ∧ numAt octets 6 1 = b.val + 1
                ∧ t.store = { s.store with units := s.store.units.set u.val { s.store.units[u] with
                    type := ty, basin := b, startCount := numAt octets 8 2 } })
            ∧ t.units[u] = { s.units[u] with est := estimateFor t u } ∧ restOfUnits u s t
            ∧ t.evalDue = s.evalDue + 1
            ∧ unchangedBut (answering ++ [.store, .estimates, .evaluations]) s t

/-- A record of several parts is assembled: part 1 replaces the assembly, the next part joins it, and the last part of
a basin or type record gives the whole record to its owner, the assembly being emptied. A record that passes the
checks is stored and is a trigger; one that fails is refused with its reason. A stored basin record's point is voted,
comes into use or goes out of it, and is published; the basin's step, override, target and flags are formed afresh
from it, the override kept down to the critical level less the hysteresis; and the estimates of the units of the basin
or type are formed again, no other's. The reasons are UNKNOWN for the record number; RANGE and ORDER for a record in
use, and RANGE, at its last part, for a basin record whose in use field holds neither of its values; and IN USE while
an engaged unit names the type, or a basin that goes out of use. A later part that does not follow the assembly, none
standing or one of another table, record or number of parts, is refused with RANGE and leaves it as it was, a last part
too (R4, R26, R27, R38, R44, R45, R46, R47, R48, R54, R172, R187; that the basin is formed once, afresh, is deduced,
log entry 21, that a last part out of sequence leaves the assembly, log entry 18, and which in use fields are looked at
before the rule of the record, log entry 20). -/
def Obligations.PartedRecordsAreAssembled : Prop :=
  (∀ (b : BasinId) (inUse : Nat) (r : BasinRec) (s : State),
    checkBasin s b inUse r
      = if inUse ≠ 0 ∧ ¬ (inUse = 1 ∧ basinRanges r) then some .range
        else if inUse ≠ 0 ∧ ¬ basinOrdered r then some .order
        else if s.store.basins[b].inUse = true ∧ inUse = 0
            ∧ ∃ u : UnitId, s.store.units[u].basin = b ∧ s.units[u].state ∈ engagedStates then some .inUse
        else none)
  ∧ (∀ (ty : TypeId) (r : TypeRec) (s : State),
      checkType s ty r
        = if r.inUse = true ∧ ¬ typeRanges r then some .range
          else if r.inUse = true ∧ ¬ typeOrdered r then some .order
          else if ∃ u : UnitId, s.store.units[u].type = ty ∧ s.units[u].state ∈ engagedStates then some .inUse
          else none)
  ∧ (∀ (c : Instr) (record : Octet) (a : Assembly) (octets : List Octet) (s : State),
      record = 0#8 ∨ 4 < record.toNat → s.station.assembly = some a → a.record = record.toNat →
      (c = .tableWriteBasin (4#8 :: record :: 2#8 :: octets) ∧ octets.length = 12 ∧ a.table = 4 ∧ a.parts.length = 1
          ∧ takes kindTableWrite (4#8 :: record :: 2#8 :: octets) s)
        ∨ (c = .tableWriteType (5#8 :: record :: 3#8 :: octets) ∧ octets.length = 30 ∧ a.table = 5
          ∧ a.parts.length = 2 ∧ takes kindTableWrite (5#8 :: record :: 3#8 :: octets) s) →
      ∃ t, exec c s = .next t ∧ isRefused kindTableWrite .unknown s t ∧ t.station.assembly = none
        ∧ unchangedBut (.assembly :: answering) s t)
  ∧ (∀ (table record : Octet) (octets : List Octet) (s : State),
    table = 4#8 ∨ table = 5#8 ∧ numAt octets 0 1 ≤ 1 → octets.length = 40 →
    takes kindTableWrite (table :: record :: 1#8 :: octets) s →
    ∃ t, exec (.tableWritePart (table :: record :: 1#8 :: octets)) s = .next t
      ∧ isAccepted kindTableWrite s t
      ∧ t.station.assembly = some ⟨table.toNat, record.toNat, [octets]⟩
      ∧ unchangedBut (answering ++ [.assembly]) s t)
  ∧ (∀ (record : Octet) (first octets : List Octet) (s : State), octets.length = 40 →
      takes kindTableWrite (5#8 :: record :: 2#8 :: octets) s →
      ∃ t, exec (.tableWritePart (5#8 :: record :: 2#8 :: octets)) s = .next t
        ∧ (s.station.assembly = some ⟨5, record.toNat, [first]⟩ →
            isAccepted kindTableWrite s t
            ∧ t.station.assembly = some ⟨5, record.toNat, [first, octets]⟩
            ∧ unchangedBut (answering ++ [.assembly]) s t)
        ∧ (s.station.assembly = none → isRefused kindTableWrite .range s t ∧ unchangedBut answering s t))
  ∧ (∀ (c : Instr) (record : Octet) (octets : List Octet) (s : State),
      (c = .tableWritePart (5#8 :: record :: 2#8 :: octets) ∧ octets.length = 40
          ∧ (∀ first, s.station.assembly ≠ some ⟨5, record.toNat, [first]⟩)
          ∧ takes kindTableWrite (5#8 :: record :: 2#8 :: octets) s)
        ∨ (c = .tableWriteBasin (4#8 :: record :: 2#8 :: octets) ∧ octets.length = 12
          ∧ (∀ first, s.station.assembly ≠ some ⟨4, record.toNat, [first]⟩)
          ∧ takes kindTableWrite (4#8 :: record :: 2#8 :: octets) s)
        ∨ (c = .tableWriteType (5#8 :: record :: 3#8 :: octets) ∧ octets.length = 30
          ∧ (∀ first second, s.station.assembly ≠ some ⟨5, record.toNat, [first, second]⟩)
          ∧ takes kindTableWrite (5#8 :: record :: 3#8 :: octets) s) →
      ∃ t, exec c s = .next t ∧ isRefused kindTableWrite .range s t ∧ unchangedBut answering s t)
  ∧ (∀ (b : BasinId) (first octets : List Octet) (s : State), octets.length = 12 →
      s.station.assembly = some ⟨4, b.val + 1, [first]⟩ →
      takes kindTableWrite (4#8 :: BitVec.ofNat 8 (b.val + 1) :: 2#8 :: octets) s →
      ∃ t, exec (.tableWriteBasin (4#8 :: BitVec.ofNat 8 (b.val + 1) :: 2#8 :: octets)) s = .next t
        ∧ t.station.assembly = none
        ∧ match checkBasin s b (numAt (first ++ octets) 0 1) (basinOf (first ++ octets)) with
          | some r => isRefused kindTableWrite r s t ∧ unchangedBut (.assembly :: answering) s t
          | none =>
            isAccepted kindTableWrite s t
            ∧ t.store = { s.store with basins := s.store.basins.set b.val (basinOf (first ++ octets)) }
            ∧ pointFormedAgain b s.store.basins[b].inUse s t ∧ basinFormedAgain b s.basins[b] t
            ∧ (∀ c : BasinId, c ≠ b → t.basins[c] = s.basins[c])
            ∧ (∀ q : PointId, q ≠ basinPoint b → t.points[q] = s.points[q])
            ∧ (∀ u : UnitId, s.store.units[u].basin = b → t.units[u].est = estimateFor t u)
            ∧ (∀ u : UnitId, s.store.units[u].basin ≠ b → t.units[u] = s.units[u])
            ∧ t.riverUse = s.riverUse
            ∧ s.evalDue < t.evalDue ∧ unchangedBut (answering ++ [.store, .assembly] ++ voting) s t)
  ∧ ∀ (ty : TypeId) (first second octets : List Octet) (s : State), octets.length = 30 →
      s.station.assembly = some ⟨5, ty.val + 1, [first, second]⟩ →
      takes kindTableWrite (5#8 :: BitVec.ofNat 8 (ty.val + 1) :: 3#8 :: octets) s →
      ∃ t, exec (.tableWriteType (5#8 :: BitVec.ofNat 8 (ty.val + 1) :: 3#8 :: octets)) s = .next t
        ∧ t.station.assembly = none
        ∧ match checkType s ty (typeOf (first ++ second ++ octets)) with
          | some r => isRefused kindTableWrite r s t ∧ unchangedBut (.assembly :: answering) s t
          | none =>
            isAccepted kindTableWrite s t
            ∧ t.store = { s.store with types := s.store.types.set ty.val (typeOf (first ++ second ++ octets)) }
            ∧ (∀ u : UnitId, s.store.units[u].type = ty → t.units[u].est = estimateFor t u)
            ∧ (∀ u : UnitId, s.store.units[u].type ≠ ty → t.units[u] = s.units[u])
            ∧ t.evalDue = s.evalDue + 1
            ∧ unchangedBut (answering ++ [.store, .assembly, .estimates, .evaluations]) s t

/-- A read answers and changes nothing but the answer: TABLE READ with the part of the stored record it names;
STATION, POINT and UNIT QUERY with the values as they stand, each field at the place R186 gives it in 45, 8 and 12 a
gauge, and 22 octets; COUNTER READ with the seven counters, 2 octets each, all set to 0 with the option YES. A STATION
STATUS clears ENROLMENT DONE (R172, R174, R176, R178, R181, R186, R187; that the bits no field names are 0 is the
model's choice, log entry 12, as it is that a field may straddle two octets of UNIT STATUS, log entry 44, and the codes
of absent values are deduced, log entry 11). -/
def Obligations.ReadsAnswerAndChangeNothing : Prop :=
  namedValuesAreTheirPositions
  ∧ (∀ (table record k : Octet) (octets : List Octet) (s : State), takes kindTableRead [table, record, k] s →
    recordOctets s.store table.toNat record.toNat = some octets → hasPart table.toNat k.toNat = true →
    ∃ t, exec (.tableRead [table, record, k]) s = .next t
      ∧ answeredWith kindTableRead kindTableContent
          ([table, record, k] ++ (octets.drop (40 * (k.toNat - 1))).take 40) s t
      ∧ unchangedBut answering s t)
  ∧ (∀ s : State, takes kindStationQuery [] s →
      ∃ t, exec (.stationQuery []) s = .next t
        ∧ answeredWith kindStationQuery kindStationStatus (stationStatus s) s t
        ∧ stationStatusCarries s (stationStatus s)
        ∧ isPending .enrolmentDone t = false ∧ restOfConditions [.enrolmentDone] s t
        ∧ unchangedBut (.conditions :: answering) s t)
  ∧ (∀ (p : PointId) (s : State), takes kindPointQuery [BitVec.ofNat 8 (p.val + 1)] s →
      ∃ t, exec (.pointQuery [BitVec.ofNat 8 (p.val + 1)]) s = .next t
        ∧ answeredWith kindPointQuery kindPointStatus (pointStatus s p) s t
        ∧ pointStatusCarries s p (pointStatus s p) ∧ unchangedBut answering s t)
  ∧ (∀ (u : UnitId) (s : State), takes kindUnitQuery [BitVec.ofNat 8 (unitNumber u)] s →
      ∃ t, exec (.unitQuery [BitVec.ofNat 8 (unitNumber u)]) s = .next t
        ∧ answeredWith kindUnitQuery kindUnitStatus (unitStatus s u) s t
        ∧ unitStatusCarries s u (unitStatus s u) ∧ unchangedBut answering s t)
  ∧ (∀ s : State, takes kindCounterRead [0#8] s →
      ∃ t, exec (.counterRead [0#8]) s = .next t
        ∧ answeredWith kindCounterRead kindCounterStatus (counterOctets s.station.counters) s t
        ∧ unchangedBut answering s t)
  ∧ (∀ c : Counters, (counterOctets c).length = 14
      ∧ numAt (counterOctets c) 0 2 = c.lineFaults % 2 ^ 16 ∧ numAt (counterOctets c) 2 2 = c.receiveOverruns % 2 ^ 16
      ∧ numAt (counterOctets c) 4 2 = c.forwarded % 2 ^ 16 ∧ numAt (counterOctets c) 6 2 = c.blockedOrders % 2 ^ 16
      ∧ numAt (counterOctets c) 8 2 = c.originRefusals % 2 ^ 16
      ∧ numAt (counterOctets c) 10 2 = c.skippedPolls % 2 ^ 16
      ∧ numAt (counterOctets c) 12 2 = c.droppedAttentions % 2 ^ 16)
  ∧ ∀ s : State, takes kindCounterRead [1#8] s →
      ∃ t, exec (.counterReadClear [1#8]) s = .next t
        ∧ answeredWith kindCounterRead kindCounterStatus (counterOctets s.station.counters) s t
        ∧ t.station.counters = ⟨0, 0, 0, 0, 0, 0, 0⟩ ∧ unchangedBut (.counters :: answering) s t

/-! ## Modes, manual orders, service and conditions -/

/-- A MODE SET is refused with RANGE for a value that names no mode, and with BUSY for SETUP from another mode while
the station is not idle; naming the mode in force it has no effect, but that AUTO ends standby; and otherwise it sets
the mode, ends the standby of AUTO, its poll timers armed again and the horn required, or the enrolment of SETUP, and
is a trigger that leaves the stack, the allowance, the candidate and the spacing timer. An enrolment that ends so
withdraws every offer that waits in the order queue, one on the line and every other entry staying, and makes
ENROLMENT DONE pending; with none under way no entry goes (R65, R121, R142, R143, R155). -/
def Obligations.ModeIsSet : Prop :=
  (∀ (o : Octet) (s : State), takes kindModeSet [o] s → 2 < o.toNat →
    ∃ t, exec (.modeSet [o]) s = .next t ∧ isRefused kindModeSet .range s t ∧ unchangedBut answering s t)
  ∧ ∀ (m : Mode) (s : State), takes kindModeSet [BitVec.ofNat 8 m.code] s →
      ∃ t, exec (.modeSet [BitVec.ofNat 8 m.code]) s = .next t
        ∧ if m = s.station.mode then
            isAccepted kindModeSet s t
            ∧ (m = .auto → s.station.standby = true →
                t.station.standby = false ∧ t.horn.required = true ∧ t.evalDue = s.evalDue + 1
                ∧ t.pollTimers = ⟨some s.store.station.gaugePollInterval, some s.store.station.unitPollInterval⟩
                ∧ unchangedBut (answering ++ [.standby, .hornRequired, .pollTimers, .evaluations]) s t)
            ∧ (m ≠ .auto ∨ s.station.standby = false → unchangedBut answering s t)
          else if m = .setup ∧ isIdle s = false then
            isRefused kindModeSet .busy s t ∧ unchangedBut answering s t
          else
            isAccepted kindModeSet s t ∧ t.station.mode = m
            ∧ (s.station.mode = .auto → t.station.standby = false)
            ∧ (s.station.mode = .auto → s.station.standby = true → standbyEnded s t)
            ∧ (s.station.mode ≠ .auto ∨ s.station.standby = false →
                t.station.standby = s.station.standby ∧ t.pollTimers = s.pollTimers ∧ t.horn.required = s.horn.required)
            ∧ (s.station.mode = .setup ∧ s.enrol.state ≠ .idle →
                t.enrol = ⟨.idle, s.enrol.offered, none⟩ ∧ isPending .enrolmentDone t = true
                ∧ (∀ e ∈ t.ring.orders, isOffer e = true → e.sending = true)
                ∧ ∀ e ∈ s.ring.orders, isOffer e = false ∨ e.sending = true → stillQueued e t)
            ∧ (s.station.mode ≠ .setup ∨ s.enrol.state = .idle →
                t.enrol = s.enrol
                ∧ t.ring.orders.map OrderEntry.unsent = s.ring.orders.map OrderEntry.unsent)
            ∧ s.evalDue < t.evalDue
            ∧ unchangedBut (answering ++ [.mode, .enrolment, .orders] ++ announcing) s t

/-- In MANUAL a START is refused with BUSY unless the allowance is FREE, then with STATE, RANGE and LIMIT by its
checks, and otherwise makes the unit the candidate at the stage named, the allowance its own and every gauge of
its basin and of the river on demand poll; a RESTAGE HIGH likewise makes a RUNNING LOW unit RAISING. Outside
MANUAL both are refused with MODE (R20, R80, R113, R119, R145). -/
def Obligations.ManualStartsAreChecked : Prop :=
  (∀ (u : UnitId) (x : Stage) (s : State),
    takes kindManualOrder [BitVec.ofNat 8 (unitNumber u), 1#8, BitVec.ofNat 8 x.code] s →
    ∃ t, exec (.manualOrderStart [BitVec.ofNat 8 (unitNumber u), 1#8, BitVec.ofNat 8 x.code]) s = .next t
      ∧ if s.station.mode ≠ .manual then isRefused kindManualOrder .mode s t ∧ unchangedBut answering s t
        else if s.engine.allowance ≠ .free then isRefused kindManualOrder .busy s t ∧ unchangedBut answering s t
        else if mayBegin s u = false then isRefused kindManualOrder .state s t ∧ unchangedBut answering s t
        else if x = .low ∧ (typeRecOf s u).stageCount ≠ 2 then
          isRefused kindManualOrder .range s t ∧ unchangedBut answering s t
        else if startAdmitted s u x = false then
          isRefused kindManualOrder .limit s t ∧ unchangedBut answering s t
        else
          isAccepted kindManualOrder s t
          ∧ t.units[u].state = .confirming ∧ t.units[u].stage = some x ∧ t.engine.allowance = .held u .start
          ∧ t.engine.candidate = some ⟨u, x, confirmationGauges s (basinOfUnit s u)⟩
          ∧ (∀ g ∈ confirmationGauges s (basinOfUnit s u), t.gauges[g].poll = some .demand)
          ∧ (∀ g : GaugeId, g ∉ confirmationGauges s (basinOfUnit s u) → t.gauges[g] = s.gauges[g])
          ∧ restOfUnits u s t ∧ unchangedBut (answering ++ moving ++ [.gauges, .due, .polls]) s t)
  ∧ ∀ (u : UnitId) (s : State), DispatchLaws s →
      takes kindManualOrder [BitVec.ofNat 8 (unitNumber u), 2#8, 2#8] s →
      ∃ t, exec (.manualOrderRestageHigh [BitVec.ofNat 8 (unitNumber u), 2#8, 2#8]) s = .next t
        ∧ if s.station.mode ≠ .manual then isRefused kindManualOrder .mode s t ∧ unchangedBut answering s t
          else if s.engine.allowance ≠ .free then isRefused kindManualOrder .busy s t ∧ unchangedBut answering s t
          else if ¬ (s.units[u].state = .running ∧ s.units[u].stage = some .low ∧ (typeRecOf s u).inUse = true
              ∧ ordersFree s u = true) then isRefused kindManualOrder .state s t ∧ unchangedBut answering s t
          else if (typeRecOf s u).stageCount ≠ 2 then
            isRefused kindManualOrder .range s t ∧ unchangedBut answering s t
          else if raiseAdmitted s u = false then
            isRefused kindManualOrder .limit s t ∧ unchangedBut answering s t
          else
            isAccepted kindManualOrder s t
            ∧ t.units[u].state = .raising ∧ t.units[u].stage = some .high
            ∧ t.units[u].confirmTimer = some (typeRecOf s u).startConfirm
            ∧ t.units[u].minRun = s.units[u].minRun
            ∧ holdsOrder u (.restage .high) t ∧ t.engine.allowance = .held u .raise
            ∧ t.engine.stack = s.engine.stack ∧ restOfUnits u s t
            ∧ unchangedBut (answering ++ moving ++ [.orders]) s t

/-- In MANUAL a STOP of a unit on the stack, and a HALT of one there or STOPPING, take it to STOPPING at stage none with
the order in its slot, its confirm timer armed and its place on the stack given up; a RESTAGE LOW takes a RUNNING
HIGH unit of a type with both stages to LOWERING. A STOP or HALT of the candidate abandons it, no order going
out. Any other lapses and is refused with STATE. Outside MANUAL all three are refused with MODE, whatever the unit
number and the stage octet of a STOP or HALT (R80, R81, R85, R120, R145, R146). -/
def Obligations.ManualStopsAreApplied : Prop :=
  (∀ (c : Instr) (n o x : Octet) (s : State),
    (c = .manualOrderRestageLow [n, o, x] ∧ o = 2#8 ∧ x = 1#8) ∨ (c = .manualOrderStop [n, o, x] ∧ o = 3#8)
      ∨ (c = .manualOrderHalt [n, o, x] ∧ o = 4#8) →
    takes kindManualOrder [n, o, x] s → s.station.mode ≠ .manual →
    ∃ t, exec c s = .next t ∧ isRefused kindManualOrder .mode s t ∧ unchangedBut answering s t)
  ∧   (∀ (c : Instr) (code : Octet) (o : Order) (u : UnitId) (x : Octet) (s : State), DispatchLaws s →
    (c = .manualOrderStop [BitVec.ofNat 8 (unitNumber u), code, x] ∧ code = 3#8 ∧ o = .stop)
      ∨ (c = .manualOrderHalt [BitVec.ofNat 8 (unitNumber u), code, x] ∧ code = 4#8 ∧ o = .halt) →
    takes kindManualOrder [BitVec.ofNat 8 (unitNumber u), code, x] s → s.station.mode = .manual →
    (typeRecOf s u).inUse = true →
    ∃ t, exec c s = .next t
      ∧ if candidateState s.units[u].state = true then
          isAccepted kindManualOrder s t ∧ t.units[u].state = .ready ∧ t.units[u].stage = none
          ∧ t.engine.allowance = .free ∧ t.engine.candidate = none ∧ t.ring.orders.length = s.ring.orders.length
          ∧ t.horn.line = false ∧ t.horn.required = s.horn.required ∧ s.evalDue < t.evalDue ∧ restOfUnits u s t
          ∧ unchangedBut (answering ++ moving) s t
        else if onStack s.units[u].state = true ∨ (o = .halt ∧ s.units[u].state = .stopping) then
          isAccepted kindManualOrder s t ∧ t.units[u].state = .stopping ∧ t.units[u].stage = none
          ∧ t.units[u].confirmTimer = some (typeRecOf s u).stopConfirm ∧ t.units[u].minRun = .idle
          ∧ (o = .halt ∨ ordersFree s u = true → holdsOrder u o t) ∧ releasedBy u t
          ∧ (s.units[u].state ≠ .stopping → s.evalDue < t.evalDue) ∧ restOfUnits u s t
          ∧ unchangedBut (answering ++ moving ++ [.orders]) s t
        else isRefused kindManualOrder .state s t ∧ unchangedBut answering s t)
  ∧ ∀ (u : UnitId) (s : State), DispatchLaws s →
      takes kindManualOrder [BitVec.ofNat 8 (unitNumber u), 2#8, 1#8] s → s.station.mode = .manual →
      (typeRecOf s u).inUse = true →
      ∃ t, exec (.manualOrderRestageLow [BitVec.ofNat 8 (unitNumber u), 2#8, 1#8]) s = .next t
        ∧ if s.units[u].state = .running ∧ s.units[u].stage = some .high then
            if (typeRecOf s u).stageCount = 1 then
              isRefused kindManualOrder .range s t ∧ unchangedBut answering s t
            else if (typeRecOf s u).stageCount = 2 then
              isAccepted kindManualOrder s t ∧ t.units[u].state = .lowering ∧ t.units[u].stage = some .low
              ∧ t.units[u].confirmTimer = some (typeRecOf s u).startConfirm
              ∧ t.units[u].minRun = s.units[u].minRun
              ∧ (ordersFree s u = true → holdsOrder u (.restage .low) t) ∧ t.engine.stack = s.engine.stack
              ∧ s.evalDue < t.evalDue ∧ restOfUnits u s t ∧ unchangedBut (answering ++ moving ++ [.orders]) s t
            else True
          else isRefused kindManualOrder .state s t ∧ unchangedBut answering s t

/-- UNIT SERVICE takes a RESTING, READY, TRIPPED, UNKNOWN, MISSING or VACANT unit out of service, its orders but a
HALT, one on the line or one in flight withdrawn and the others' staying; an offered VACANT unit is no longer offered,
and an enrolment under way goes on with the next. It puts an OUT OF SERVICE unit back, RESTING with its full rest, or
VACANT when not enrolled. TRIP CLEAR takes a TRIPPED unit whose drive reports no trip to RESTING. Either of these
leaves every order where it is, queued, in flight or pending. What does not fit is refused with STATE, and what stands
so already is accepted without effect (R63, R76, R90, R91; the rest of a unit of an unused type, which a unit put back
or cleared takes, is the model's free value, log entry 9, and which entry gives its place up to the next offer in a
full queue its choice, log entry 15). -/
def Obligations.ServiceAndTripClearAct : Prop :=
  (∀ (u : UnitId) (s : State), takes kindUnitService [BitVec.ofNat 8 (unitNumber u), 0#8] s →
    ∃ t, exec (.unitServiceOut [BitVec.ofNat 8 (unitNumber u), 0#8]) s = .next t
      ∧ if s.units[u].state = .outOfService then isAccepted kindUnitService s t ∧ unchangedBut answering s t
        else if mayLeaveService s.units[u].state = true then
          isAccepted kindUnitService s t ∧ t.units[u].state = .outOfService ∧ t.units[u].stage = none
          ∧ t.units[u].restTimer = none ∧ t.units[u].trip = none
          ∧ t.store = { s.store with units := s.store.units.set u.val { s.store.units[u] with inService := false } }
          ∧ (∀ e ∈ t.ring.orders, holdsSlot u e = true → isHalt e = true ∨ e.sending = true)
          ∧ t.units[u].pendingOrder = (if s.units[u].pendingOrder = some .halt then some .halt else none)
          ∧ t.units[u].inFlight = s.units[u].inFlight
          ∧ (if s.units[u].state = .vacant ∧ s.enrol.offered = some u then
              (if s.enrol.state = .idle then t.enrol = { s.enrol with offered := none } ∧ othersStayQueued u s t
              else
                (∀ e ∈ t.ring.orders, e.item = .offer u → e.sending = true)
                ∧ (∀ e ∈ s.ring.orders, holdsSlot u e = false → e.item ≠ .offer u →
                    (waitsToEnrol e = false ∨ s.ring.orders.length < 16) → stillQueued e t)
                ∧ match lowestVacant t with
                  | some v => t.enrol = ⟨.offering, some v, none⟩
                      ∧ ∃ e ∈ t.ring.orders, e.item = .offer v
                  | none => t.enrol = ⟨.idle, none, none⟩ ∧ isPending .enrolmentDone t = true)
            else t.enrol = s.enrol ∧ othersStayQueued u s t)
          ∧ s.evalDue < t.evalDue ∧ restOfUnits u s t
          ∧ unchangedBut (answering ++ moving ++ [.store, .orders, .enrolment]) s t
        else isRefused kindUnitService .state s t ∧ unchangedBut answering s t)
  ∧ (∀ (u : UnitId) (s : State), takes kindUnitService [BitVec.ofNat 8 (unitNumber u), 1#8] s →
      ∃ t, exec (.unitServiceIn [BitVec.ofNat 8 (unitNumber u), 1#8]) s = .next t
        ∧ isAccepted kindUnitService s t
        ∧ if s.units[u].state ≠ .outOfService then unchangedBut answering s t
          else
            t.store = { s.store with units := s.store.units.set u.val { s.store.units[u] with inService := true } }
            ∧ t.units[u].stage = none
            ∧ (let d := (if (typeRecOf s u).inUse = true then (typeRecOf s u).minRest
                  else Config.untypedTime s.freeCount .minimumRest);
                if s.store.units[u].enrolled = false then t.units[u].state = .vacant
                else if d = 0 then t.units[u].state = .ready
                else t.units[u].state = .resting ∧ t.units[u].restTimer = some d)
            ∧ t.freeCount = (if s.store.units[u].enrolled = false ∨ (typeRecOf s u).inUse = true then s.freeCount
                else s.freeCount + 1)
            ∧ t.units[u].inFlight = s.units[u].inFlight ∧ t.units[u].pendingOrder = s.units[u].pendingOrder
            ∧ s.evalDue < t.evalDue ∧ restOfUnits u s t ∧ unchangedBut (answering ++ moving ++ [.store, .free]) s t)
  ∧ ∀ (u : UnitId) (s : State), takes kindTripClear [BitVec.ofNat 8 (unitNumber u)] s →
      ∃ t, exec (.tripClear [BitVec.ofNat 8 (unitNumber u)]) s = .next t
        ∧ if s.units[u].state = .tripped ∧ (s.units[u].lastReport.any fun r => decide (r.trip = 0)) = true then
            isAccepted kindTripClear s t ∧ t.units[u].trip = none ∧ t.units[u].stage = none
            ∧ (let d := (if (typeRecOf s u).inUse = true then (typeRecOf s u).minRest
                  else Config.untypedTime s.freeCount .minimumRest);
                if d = 0 then t.units[u].state = .ready
                else t.units[u].state = .resting ∧ t.units[u].restTimer = some d)
            ∧ t.freeCount = (if (typeRecOf s u).inUse = true then s.freeCount else s.freeCount + 1)
            ∧ t.units[u].inFlight = s.units[u].inFlight ∧ t.units[u].pendingOrder = s.units[u].pendingOrder
            ∧ s.evalDue < t.evalDue ∧ restOfUnits u s t
            ∧ unchangedBut (answering ++ moving ++ [.free]) s t
          else isRefused kindTripClear .state s t ∧ unchangedBut answering s t

/-- A CONDITION CLEAR is refused with RANGE for a code outside 1 to 13 and accepted for any other in every mode: codes
8, 11, 12 and 13 are not pending afterwards, a condition by state stays, and no ATTENTION is sent. A condition reported
while it is not pending becomes so with its ATTENTION, deposited or counted as dropped, and one already pending sends
none; and from a state in which the conditions stand as their owners do, no command but a reset deposits an ATTENTION of
a condition that was pending before it or whose code lies above the threshold (R177, R179, R180; the room of an
ATTENTION is deduced, log entry 7). -/
def Obligations.ConditionsAreCleared : Prop :=
  (∀ (n : Octet) (s : State), takes kindConditionClear [n] s →
    ∃ t, exec (.conditionClear [n]) s = .next t
      ∧ (∃ e : ReplyEntry, t.ring.replies = s.ring.replies ++ [e] ∧ isAttention e = false)
      ∧ if n.toNat < 1 ∨ 13 < n.toNat then
          isRefused kindConditionClear .range s t ∧ unchangedBut answering s t
        else
          isAccepted kindConditionClear s t
          ∧ (∀ c : Condition, c.code = n.toNat →
              if n.toNat ∈ [8, 11, 12, 13] then isPending c t = false ∧ restOfConditions [c] s t
              else isPending c t = isPending c s ∧ unchangedBut answering s t)
          ∧ unchangedBut (.conditions :: answering) s t)
  ∧ (∀ (c : Condition) (s : State),
      let t := raiseCondition c s
      isPending c t = true ∧ restOfConditions [c] s t ∧ attentionSent c s t
      ∧ (7 ≤ c.code → unchangedBut latching s t) ∧ unchangedBut announcing s t)
  ∧ ∀ (c : Instr) (s : State), DispatchLaws s → PointsLaw s → VoteLaw s → ConditionsLaw s → ofBoard c = false →
      (∀ pins, c ≠ .restartRelayClose pins) →
      ∀ t : State, exec c s = .next t → ∀ e ∈ t.ring.replies, isAttention e = true → e ∉ s.ring.replies →
      ∃ k : Condition, e.telegram.payload.head? = some (BitVec.ofNat 8 k.code) ∧ isPending k s = false
        ∧ k.code ≤ s.store.station.threshold

/-! ## Restart, reset and power -/

/-- An accepted RESTART begins the sequence, and a second one leaves it, so that the ACCEPTED of the first alone is the
one whose transmission the sequence waits for; once that ACCEPTED has gone out and the line is
silent, any telegram in collection ended and entered, the relay closes and a controller reset is taken and held,
while with a collection in progress nothing happens yet; the end of the hold makes the controller ready with the
relay still closed, and its opening, at a silent upstream line, lets the arbiter grant (R169,
R170, R171). -/
def Obligations.RestartResetsTheController : Prop :=
  (∀ s : State, takes kindRestart [] s →
    ∃ t, exec (.restart []) s = .next t ∧ isAccepted kindRestart s t
      ∧ t.ring.replies = s.ring.replies
          ++ [⟨⟨addrSupervisor, addrController, kindAccepted, [kindRestart]⟩, decide (s.board.restart = .none)⟩]
      ∧ t.board = { s.board with restart := if s.board.restart = .none then .accepted else s.board.restart }
      ∧ unchangedBut (.board :: answering) s t)
  ∧ (∀ (pins : LineRate) (s : State), s.ready = true → s.board.restart = .replied →
      s.ring.collecting.isSome = true → exec (.restartRelayClose pins) s = .next s)
  ∧ (∀ (pins : LineRate) (s : State), s.ready = true → s.board.restart = .replied → s.ring.collecting = none →
      ∃ t, exec (.restartRelayClose pins) s = .next t ∧ resetLeaves s t
        ∧ t.board = { s.board with
            resetHold := true, relayClosed := true, restart := .none, ratePins := pins, lineRate := pins })
  ∧ (∀ s : State,
      ∃ t, exec .resetHoldExpiry s = .next t ∧ t.board = { s.board with resetHold := false }
        ∧ unchangedBut [.board] s t)
  ∧ ∀ s : State, s.ready = true → s.board.relayClosed = true →
      ∃ t, exec .bypassRelayOpen s = .next t ∧ t.board = { s.board with relayClosed := false }
        ∧ (s.ring.line = .idle → s.board.restart ≠ .replied → s.ring.replyHeld = false →
            (t.ring.line = .idle ↔
              s.ring.forward = [] ∧ s.ring.orders = [] ∧ s.ring.polls = [] ∧ s.ring.replies = []))
        ∧ unchangedBut [.board, .line] s t

/-- The reset input and the return of power take a controller reset with the relay closed, the rate pins read; the
reset input's release leaves the relay closed; a loss of power closes the relay, ends a transmission where it
stands and silences the horn (R147, R158, R169, R171; that the rest of the volatile state is kept without power, until
the reset of its return, is the model's choice, log entry 22, and that a reset input ends a RESTART's hold is
deduced, log entry 24). -/
def Obligations.ResetInputAndPowerActOnTheBoard : Prop :=
  (∀ (pins : LineRate) (s : State), s.board.resetInput = false →
    ∃ t, exec (.resetInput pins) s = .next t
      ∧ if s.board.powered = true then
          resetLeaves s t
          ∧ t.board = { s.board with
              resetInput := true, resetHold := false, relayClosed := true, restart := .none,
              ratePins := pins, lineRate := pins }
        else t.board = { s.board with resetInput := true, ratePins := pins } ∧ unchangedBut [.board] s t)
  ∧ (∀ (pins : LineRate) (s : State), s.board.powered = false →
      ∃ t, exec (.powerOn pins) s = .next t ∧ resetLeaves s t
        ∧ t.board = { s.board with
            powered := true, resetHold := false, relayClosed := true, restart := .none,
            ratePins := pins, lineRate := pins })
  ∧ (∀ s : State,
      ∃ t, exec .resetInputRelease s = .next t ∧ t.board = { s.board with resetInput := false }
        ∧ unchangedBut [.board] s t)
  ∧ ∀ s : State, s.board.powered = true →
      ∃ t, exec .powerLoss s = .next t
        ∧ t.board = { s.board with powered := false, resetHold := false, relayClosed := true }
        ∧ t.horn.line = false ∧ t.horn.warningTimer = none ∧ t.ring.line = .idle
        ∧ unchangedBut [.board, .hornLine, .line] s t
end

