-- ==== Sys2Proof/Laws/Checks.lean ====
section
/-! SUPPORT. The laws of dispatch, of the order queue, of the basins and of the votes as checks that can be evaluated: a
state that passes them obeys the laws. -/

namespace Sys2Proof.Machine

open Sys2Proof

/-- The candidate law as a check (R97). -/
def candidateCheck (s : State) : Bool :=
  match s.engine.candidate with
  | none => allUnits.all fun u => !candidateState s.units[u].state
  | some c =>
    decide (s.units[c.unit].stage = some c.stage)
    && allUnits.all fun u => candidateState s.units[u].state == decide (u = c.unit)

/-- The allowance law as a check (R95). -/
def allowanceCheck (s : State) : Bool :=
  allUnits.all fun u => [Purpose.start, Purpose.raise].all fun p =>
    decide (s.engine.allowance = .held u p) == keepsAllowance p s.units[u].state

/-- The stack law as a check (R94). -/
def stackCheck (s : State) : Bool :=
  decide s.engine.stack.Nodup && allUnits.all fun u => decide (u ∈ s.engine.stack) == onStack s.units[u].state

theorem mem_allUnits (u : UnitId) : u ∈ allUnits := by
  revert u; decide

theorem candidateLaw_of_check {s : State} (h : candidateCheck s = true) : CandidateLaw s := by
  unfold candidateCheck at h
  unfold CandidateLaw
  split at h
  · rename_i hc
    rw [List.all_eq_true] at h
    refine ⟨fun c hx => absurd (hc.symm.trans hx) (by simp), fun u hu => ?_⟩
    have k := h u (mem_allUnits u)
    rw [hu] at k
    exact absurd k (by decide)
  · rename_i c hc
    rw [Bool.and_eq_true, List.all_eq_true] at h
    obtain ⟨hs, ha⟩ := h
    refine ⟨fun d hd => ?_, fun u hu => ⟨c, hc, ?_⟩⟩
    · obtain rfl : c = d := Option.some.inj (hc.symm.trans hd)
      exact ⟨by simpa using ha c.unit (mem_allUnits _), by simpa using hs⟩
    · have k := ha u (mem_allUnits u)
      rw [hu] at k
      simpa [eq_comm] using k

theorem allowanceLaw_of_check {s : State} (h : allowanceCheck s = true) : AllowanceLaw s := by
  intro u p
  have k := List.all_eq_true.mp (List.all_eq_true.mp h u (mem_allUnits u)) p (by cases p <;> decide)
  have e : decide (s.engine.allowance = .held u p) = keepsAllowance p s.units[u].state := beq_iff_eq.mp k
  rw [← e, decide_eq_true_iff]

theorem stackLaw_of_check {s : State} (h : stackCheck s = true) : StackLaw s := by
  unfold stackCheck at h
  rw [Bool.and_eq_true, List.all_eq_true] at h
  refine ⟨of_decide_eq_true h.1, fun u => ?_⟩
  have e : decide (u ∈ s.engine.stack) = onStack s.units[u].state := beq_iff_eq.mp (h.2 u (mem_allUnits u))
  rw [← e, decide_eq_true_iff]

/-- A state that passes the checks and shows the units' state in what Station Control holds obeys the laws of
dispatch (R94, R95, R97, R99, R71, R83). -/
theorem dispatchLaws_of_check {s : State}
    (h : (stackCheck s && allowanceCheck s && candidateCheck s
      && decide (s.station.idle = isIdle s)
      && decide (isPending .unitTripped s = allUnits.any (fun u => decide (s.units[u].state = .tripped)))
      && decide (isPending .unitSilent s = allUnits.any (fun u => decide (s.units[u].state = .missing)))) = true) :
    DispatchLaws s := by
  simp only [Bool.and_eq_true, decide_eq_true_eq] at h
  exact ⟨stackLaw_of_check h.1.1.1.1.1, allowanceLaw_of_check h.1.1.1.1.2, candidateLaw_of_check h.1.1.1.2,
    h.1.1.2, h.1.2, h.2⟩

/-- Whether the line carries an order (R166). -/
def orderOnTheLine (s : State) : Bool :=
  match s.ring.line with
  | .sending .order _ => true
  | _ => false

theorem exists_of_orderOnTheLine {s : State} (h : orderOnTheLine s = true) : ∃ x, s.ring.line = .sending .order x := by
  unfold orderOnTheLine at h
  split at h
  · exact ⟨_, ‹_›⟩
  · cases h

/-- A state that passes the check obeys the law of the order queue (R86, R165, R166). -/
theorem ordersLaw_of_check {s : State}
    (h : (∀ u : UnitId, s.ring.orders.countP (holdsSlot u) ≤ 1)
      ∧ (∀ u : UnitId, s.units[u].inFlight.isSome = true → queuedEntry s u = none)
      ∧ (∀ u : UnitId, s.units[u].pendingOrder.isSome = true →
          s.units[u].inFlight.isSome = true ∨ ∃ e ∈ s.ring.orders, holdsSlot u e = true ∧ e.sending = true)
      ∧ s.ring.orders.countP OrderEntry.sending ≤ 1
      ∧ (∀ e ∈ s.ring.orders, e.dropped = true → e.sending = true)
      ∧ ∀ e ∈ s.ring.orders, e.sending = true → orderOnTheLine s = true) : OrdersLaw s :=
  ⟨h.1, h.2.1, h.2.2.1, h.2.2.2.1, h.2.2.2.2.1, fun e he hs _ => exists_of_orderOnTheLine (h.2.2.2.2.2 e he hs)⟩

/-- The law of one basin as a check, of its record, its point as last published and what it holds (R45 to R56). -/
def basinCheck (r : BasinRec) (p : PointPub) (v : BasinRt) : Bool :=
  if r.inUse then
    decide (basinRanges r) && decide (basinOrdered r)
    && decide (v.step ≤ r.stepCount ∧ v.target = targetOf r v.step)
    && decide (v.status = match p.state, p.holdExpired with
        | .unseen, false => .unseen
        | .lost, false => .held
        | .unseen, true => .blind
        | .lost, true => .blind
        | _, _ => .voted)
    && decide (v.blind = decide (v.status = .blind) ∧ (v.status = .unseen → v.step = 0)
      ∧ (v.status = .blind → v.step = r.blindStep)
      ∧ (v.override = true → r.overrideAllowed = 1 ∧ (v.status = .voted ∨ v.status = .held)))
    && match p.level with
      | some l =>
        decide ((v.status = .voted →
            (v.step ≠ 0 → threshold r v.step - r.hysteresis ≤ l)
            ∧ (v.step < r.stepCount → l < threshold r (v.step + 1))
            ∧ (v.override = true → r.criticalLevel - r.hysteresis ≤ l)
            ∧ (r.overrideAllowed = 1 → r.criticalLevel ≤ l → v.override = true))
          ∧ v.atCritical = (decide (v.status = .voted ∨ v.status = .held) && decide (r.criticalLevel ≤ l))
          ∧ v.dry = (decide (v.status = .voted ∨ v.status = .held) && decide (l ≤ r.stopLevel))
          ∧ v.atWake = (decide (v.status = .voted) && decide (r.wakeLevel ≤ l)))
      | none => decide (v.atCritical = false ∧ v.dry = false ∧ v.atWake = false)
  else decide (v = ⟨.none, 0, 0, false, false, false, false, false⟩)

/-- A state whose basins pass the check obeys the law of the basins (R45 to R56). -/
theorem targetLaw_of_check {s : State}
    (h : ∀ b : BasinId, basinCheck s.store.basins[b] s.points[basinPoint b].published s.basins[b] = true) :
    TargetLaw s := by
  intro b
  have k := h b
  unfold basinCheck at k
  dsimp only
  split at k
  · rename_i hu
    rw [if_pos hu]
    simp only [Bool.and_eq_true, decide_eq_true_eq] at k
    obtain ⟨⟨⟨⟨⟨a, b'⟩, c⟩, d⟩, e⟩, f⟩ := k
    refine ⟨a, b', c.1, c.2, d, e.1, e.2.1, e.2.2.1, e.2.2.2, ?_⟩
    split at f <;> rename_i hl <;> rw [hl] <;> exact of_decide_eq_true f
  · rename_i hu
    rw [if_neg hu]
    exact of_decide_eq_true k

/-- The law of one point's vote as a check, of its vote and what it holds (R11, R14). -/
def voteCheck (o : Option (PointState × Int)) (p : PointRt) : Bool :=
  match o with
  | some (st, l) => decide (p.cur = ⟨st, some l, false⟩ ∧ p.lostTimer = none)
  | none =>
    decide ((p.cur.state = .unseen ∧ p.cur.level = none) ∨ (p.cur.state = .lost ∧ p.cur.level.isSome = true))

/-- A state whose points in use pass the check obeys the law of the votes (R11, R14). -/
theorem voteLaw_of_check {s : State}
    (h : ∀ p : PointId, pointInUse s p = true →
      voteCheck (voteOf (pointBand s p) ((usableAt s p).map Prod.snd)) s.points[p] = true) : VoteLaw s := by
  intro p hp
  have k := h p hp
  revert k
  generalize voteOf (pointBand s p) ((usableAt s p).map Prod.snd) = o
  rcases o with _ | ⟨st, l⟩ <;> intro k <;> simpa only [voteCheck, decide_eq_true_eq] using k

end Sys2Proof.Machine
end

