-- ==== Sys2Proof/Laws/State.lean ====
section
/-! SUPPORT. The small lemmas of the plain updates of State: what each leaves as it is and what it sets, one
lemma for each field, true by rfl, so that no proof unfolds a record update; and reading an updated vector. -/

namespace Sys2Proof.Machine

open Sys2Proof

/-! ## Vectors -/

/-- The entry that `upd` replaces. -/
@[simp] theorem upd_self {α : Type} {n : Nat} (v : Vector α n) (i : Fin n) (f : α → α) :
    (upd v i f)[i.val] = f v[i.val] := by
  simp [upd]

/-- The entries that `upd` leaves. -/
theorem upd_of_ne {α : Type} {n : Nat} (v : Vector α n) (i j : Fin n) (f : α → α) (h : j ≠ i) :
    (upd v i f)[j] = v[j] := by
  simp [upd, Fin.val_ne_of_ne (Ne.symm h)]

/-- Any entry of an updated vector. -/
theorem upd_getElem {α : Type} {n : Nat} (v : Vector α n) (i j : Fin n) (f : α → α) :
    (upd v i f)[j] = if j = i then f v[j] else v[j] := by
  by_cases h : j = i
  · subst h; exact (upd_self v j f).trans (if_pos rfl).symm
  · simpa [h] using upd_of_ne v i j f h

variable (s : State)

/-! ## `trigger` -/

@[simp] theorem trigger_pending : (trigger s).pending = s.pending := rfl
@[simp] theorem trigger_store : (trigger s).store = s.store := rfl
@[simp] theorem trigger_gauges : (trigger s).gauges = s.gauges := rfl
@[simp] theorem trigger_points : (trigger s).points = s.points := rfl
@[simp] theorem trigger_riverUse : (trigger s).riverUse = s.riverUse := rfl
@[simp] theorem trigger_basins : (trigger s).basins = s.basins := rfl
@[simp] theorem trigger_units : (trigger s).units = s.units := rfl
@[simp] theorem trigger_enrol : (trigger s).enrol = s.enrol := rfl
@[simp] theorem trigger_engine : (trigger s).engine = s.engine := rfl
@[simp] theorem trigger_evalDue : (trigger s).evalDue = s.evalDue + 1 := rfl
@[simp] theorem trigger_limits : (trigger s).limits = s.limits := rfl
@[simp] theorem trigger_station : (trigger s).station = s.station := rfl
@[simp] theorem trigger_horn : (trigger s).horn = s.horn := rfl
@[simp] theorem trigger_pollTimers : (trigger s).pollTimers = s.pollTimers := rfl
@[simp] theorem trigger_ring : (trigger s).ring = s.ring := rfl
@[simp] theorem trigger_board : (trigger s).board = s.board := rfl
@[simp] theorem trigger_freeCount : (trigger s).freeCount = s.freeCount := rfl

/-! ## `bump` -/

@[simp] theorem bump_pending (f : Counters → Counters) : (bump f s).pending = s.pending := rfl
@[simp] theorem bump_store (f : Counters → Counters) : (bump f s).store = s.store := rfl
@[simp] theorem bump_gauges (f : Counters → Counters) : (bump f s).gauges = s.gauges := rfl
@[simp] theorem bump_points (f : Counters → Counters) : (bump f s).points = s.points := rfl
@[simp] theorem bump_riverUse (f : Counters → Counters) : (bump f s).riverUse = s.riverUse := rfl
@[simp] theorem bump_basins (f : Counters → Counters) : (bump f s).basins = s.basins := rfl
@[simp] theorem bump_units (f : Counters → Counters) : (bump f s).units = s.units := rfl
@[simp] theorem bump_enrol (f : Counters → Counters) : (bump f s).enrol = s.enrol := rfl
@[simp] theorem bump_engine (f : Counters → Counters) : (bump f s).engine = s.engine := rfl
@[simp] theorem bump_evalDue (f : Counters → Counters) : (bump f s).evalDue = s.evalDue := rfl
@[simp] theorem bump_limits (f : Counters → Counters) : (bump f s).limits = s.limits := rfl
@[simp] theorem bump_station_mode (f : Counters → Counters) : (bump f s).station.mode = s.station.mode := rfl
@[simp] theorem bump_station_standby (f : Counters → Counters) : (bump f s).station.standby = s.station.standby := rfl
@[simp] theorem bump_station_idle (f : Counters → Counters) : (bump f s).station.idle = s.station.idle := rfl
@[simp] theorem bump_station_conditions (f : Counters → Counters) : (bump f s).station.conditions = s.station.conditions := rfl
@[simp] theorem bump_station_counters (f : Counters → Counters) : (bump f s).station.counters = f s.station.counters := rfl
@[simp] theorem bump_station_assembly (f : Counters → Counters) : (bump f s).station.assembly = s.station.assembly := rfl
@[simp] theorem bump_horn (f : Counters → Counters) : (bump f s).horn = s.horn := rfl
@[simp] theorem bump_pollTimers (f : Counters → Counters) : (bump f s).pollTimers = s.pollTimers := rfl
@[simp] theorem bump_ring (f : Counters → Counters) : (bump f s).ring = s.ring := rfl
@[simp] theorem bump_board (f : Counters → Counters) : (bump f s).board = s.board := rfl
@[simp] theorem bump_freeCount (f : Counters → Counters) : (bump f s).freeCount = s.freeCount := rfl

/-! ## `setPending` -/

@[simp] theorem setPending_pending (c : Condition) (b : Bool) : (setPending c b s).pending = s.pending := rfl
@[simp] theorem setPending_store (c : Condition) (b : Bool) : (setPending c b s).store = s.store := rfl
@[simp] theorem setPending_gauges (c : Condition) (b : Bool) : (setPending c b s).gauges = s.gauges := rfl
@[simp] theorem setPending_points (c : Condition) (b : Bool) : (setPending c b s).points = s.points := rfl
@[simp] theorem setPending_riverUse (c : Condition) (b : Bool) : (setPending c b s).riverUse = s.riverUse := rfl
@[simp] theorem setPending_basins (c : Condition) (b : Bool) : (setPending c b s).basins = s.basins := rfl
@[simp] theorem setPending_units (c : Condition) (b : Bool) : (setPending c b s).units = s.units := rfl
@[simp] theorem setPending_enrol (c : Condition) (b : Bool) : (setPending c b s).enrol = s.enrol := rfl
@[simp] theorem setPending_engine (c : Condition) (b : Bool) : (setPending c b s).engine = s.engine := rfl
@[simp] theorem setPending_evalDue (c : Condition) (b : Bool) : (setPending c b s).evalDue = s.evalDue := rfl
@[simp] theorem setPending_limits (c : Condition) (b : Bool) : (setPending c b s).limits = s.limits := rfl
@[simp] theorem setPending_station_mode (c : Condition) (b : Bool) : (setPending c b s).station.mode = s.station.mode := rfl
@[simp] theorem setPending_station_standby (c : Condition) (b : Bool) : (setPending c b s).station.standby = s.station.standby := rfl
@[simp] theorem setPending_station_idle (c : Condition) (b : Bool) : (setPending c b s).station.idle = s.station.idle := rfl
@[simp] theorem setPending_station_conditions (c : Condition) (b : Bool) : (setPending c b s).station.conditions = s.station.conditions.set c.index.val b c.index.isLt := rfl
@[simp] theorem setPending_station_counters (c : Condition) (b : Bool) : (setPending c b s).station.counters = s.station.counters := rfl
@[simp] theorem setPending_station_assembly (c : Condition) (b : Bool) : (setPending c b s).station.assembly = s.station.assembly := rfl
@[simp] theorem setPending_horn (c : Condition) (b : Bool) : (setPending c b s).horn = s.horn := rfl
@[simp] theorem setPending_pollTimers (c : Condition) (b : Bool) : (setPending c b s).pollTimers = s.pollTimers := rfl
@[simp] theorem setPending_ring (c : Condition) (b : Bool) : (setPending c b s).ring = s.ring := rfl
@[simp] theorem setPending_board (c : Condition) (b : Bool) : (setPending c b s).board = s.board := rfl
@[simp] theorem setPending_freeCount (c : Condition) (b : Bool) : (setPending c b s).freeCount = s.freeCount := rfl

/-! ## `setAssembly` -/

@[simp] theorem setAssembly_pending (a : Option Assembly) : (setAssembly a s).pending = s.pending := rfl
@[simp] theorem setAssembly_store (a : Option Assembly) : (setAssembly a s).store = s.store := rfl
@[simp] theorem setAssembly_gauges (a : Option Assembly) : (setAssembly a s).gauges = s.gauges := rfl
@[simp] theorem setAssembly_points (a : Option Assembly) : (setAssembly a s).points = s.points := rfl
@[simp] theorem setAssembly_riverUse (a : Option Assembly) : (setAssembly a s).riverUse = s.riverUse := rfl
@[simp] theorem setAssembly_basins (a : Option Assembly) : (setAssembly a s).basins = s.basins := rfl
@[simp] theorem setAssembly_units (a : Option Assembly) : (setAssembly a s).units = s.units := rfl
@[simp] theorem setAssembly_enrol (a : Option Assembly) : (setAssembly a s).enrol = s.enrol := rfl
@[simp] theorem setAssembly_engine (a : Option Assembly) : (setAssembly a s).engine = s.engine := rfl
@[simp] theorem setAssembly_evalDue (a : Option Assembly) : (setAssembly a s).evalDue = s.evalDue := rfl
@[simp] theorem setAssembly_limits (a : Option Assembly) : (setAssembly a s).limits = s.limits := rfl
@[simp] theorem setAssembly_station_mode (a : Option Assembly) : (setAssembly a s).station.mode = s.station.mode := rfl
@[simp] theorem setAssembly_station_standby (a : Option Assembly) : (setAssembly a s).station.standby = s.station.standby := rfl
@[simp] theorem setAssembly_station_idle (a : Option Assembly) : (setAssembly a s).station.idle = s.station.idle := rfl
@[simp] theorem setAssembly_station_conditions (a : Option Assembly) : (setAssembly a s).station.conditions = s.station.conditions := rfl
@[simp] theorem setAssembly_station_counters (a : Option Assembly) : (setAssembly a s).station.counters = s.station.counters := rfl
@[simp] theorem setAssembly_station_assembly (a : Option Assembly) : (setAssembly a s).station.assembly = a := rfl
@[simp] theorem setAssembly_horn (a : Option Assembly) : (setAssembly a s).horn = s.horn := rfl
@[simp] theorem setAssembly_pollTimers (a : Option Assembly) : (setAssembly a s).pollTimers = s.pollTimers := rfl
@[simp] theorem setAssembly_ring (a : Option Assembly) : (setAssembly a s).ring = s.ring := rfl
@[simp] theorem setAssembly_board (a : Option Assembly) : (setAssembly a s).board = s.board := rfl
@[simp] theorem setAssembly_freeCount (a : Option Assembly) : (setAssembly a s).freeCount = s.freeCount := rfl

/-! ## `setUnit` -/

@[simp] theorem setUnit_pending (u : UnitId) (f : UnitRt → UnitRt) : (setUnit u f s).pending = s.pending := rfl
@[simp] theorem setUnit_store (u : UnitId) (f : UnitRt → UnitRt) : (setUnit u f s).store = s.store := rfl
@[simp] theorem setUnit_gauges (u : UnitId) (f : UnitRt → UnitRt) : (setUnit u f s).gauges = s.gauges := rfl
@[simp] theorem setUnit_points (u : UnitId) (f : UnitRt → UnitRt) : (setUnit u f s).points = s.points := rfl
@[simp] theorem setUnit_riverUse (u : UnitId) (f : UnitRt → UnitRt) : (setUnit u f s).riverUse = s.riverUse := rfl
@[simp] theorem setUnit_basins (u : UnitId) (f : UnitRt → UnitRt) : (setUnit u f s).basins = s.basins := rfl
@[simp] theorem setUnit_units (u : UnitId) (f : UnitRt → UnitRt) : (setUnit u f s).units = upd s.units u f := rfl
@[simp] theorem setUnit_enrol (u : UnitId) (f : UnitRt → UnitRt) : (setUnit u f s).enrol = s.enrol := rfl
@[simp] theorem setUnit_engine (u : UnitId) (f : UnitRt → UnitRt) : (setUnit u f s).engine = s.engine := rfl
@[simp] theorem setUnit_evalDue (u : UnitId) (f : UnitRt → UnitRt) : (setUnit u f s).evalDue = s.evalDue := rfl
@[simp] theorem setUnit_limits (u : UnitId) (f : UnitRt → UnitRt) : (setUnit u f s).limits = s.limits := rfl
@[simp] theorem setUnit_station (u : UnitId) (f : UnitRt → UnitRt) : (setUnit u f s).station = s.station := rfl
@[simp] theorem setUnit_horn (u : UnitId) (f : UnitRt → UnitRt) : (setUnit u f s).horn = s.horn := rfl
@[simp] theorem setUnit_pollTimers (u : UnitId) (f : UnitRt → UnitRt) : (setUnit u f s).pollTimers = s.pollTimers := rfl
@[simp] theorem setUnit_ring (u : UnitId) (f : UnitRt → UnitRt) : (setUnit u f s).ring = s.ring := rfl
@[simp] theorem setUnit_board (u : UnitId) (f : UnitRt → UnitRt) : (setUnit u f s).board = s.board := rfl
@[simp] theorem setUnit_freeCount (u : UnitId) (f : UnitRt → UnitRt) : (setUnit u f s).freeCount = s.freeCount := rfl

/-! ## `setRecord` -/

@[simp] theorem setRecord_pending (u : UnitId) (f : UnitRec → UnitRec) : (setRecord u f s).pending = s.pending := rfl
@[simp] theorem setRecord_store_station (u : UnitId) (f : UnitRec → UnitRec) : (setRecord u f s).store.station = s.store.station := rfl
@[simp] theorem setRecord_store_gauges (u : UnitId) (f : UnitRec → UnitRec) : (setRecord u f s).store.gauges = s.store.gauges := rfl
@[simp] theorem setRecord_store_river (u : UnitId) (f : UnitRec → UnitRec) : (setRecord u f s).store.river = s.store.river := rfl
@[simp] theorem setRecord_store_basins (u : UnitId) (f : UnitRec → UnitRec) : (setRecord u f s).store.basins = s.store.basins := rfl
@[simp] theorem setRecord_store_types (u : UnitId) (f : UnitRec → UnitRec) : (setRecord u f s).store.types = s.store.types := rfl
@[simp] theorem setRecord_store_units (u : UnitId) (f : UnitRec → UnitRec) : (setRecord u f s).store.units = upd s.store.units u f := rfl
@[simp] theorem setRecord_gauges (u : UnitId) (f : UnitRec → UnitRec) : (setRecord u f s).gauges = s.gauges := rfl
@[simp] theorem setRecord_points (u : UnitId) (f : UnitRec → UnitRec) : (setRecord u f s).points = s.points := rfl
@[simp] theorem setRecord_riverUse (u : UnitId) (f : UnitRec → UnitRec) : (setRecord u f s).riverUse = s.riverUse := rfl
@[simp] theorem setRecord_basins (u : UnitId) (f : UnitRec → UnitRec) : (setRecord u f s).basins = s.basins := rfl
@[simp] theorem setRecord_units (u : UnitId) (f : UnitRec → UnitRec) : (setRecord u f s).units = s.units := rfl
@[simp] theorem setRecord_enrol (u : UnitId) (f : UnitRec → UnitRec) : (setRecord u f s).enrol = s.enrol := rfl
@[simp] theorem setRecord_engine (u : UnitId) (f : UnitRec → UnitRec) : (setRecord u f s).engine = s.engine := rfl
@[simp] theorem setRecord_evalDue (u : UnitId) (f : UnitRec → UnitRec) : (setRecord u f s).evalDue = s.evalDue := rfl
@[simp] theorem setRecord_limits (u : UnitId) (f : UnitRec → UnitRec) : (setRecord u f s).limits = s.limits := rfl
@[simp] theorem setRecord_station (u : UnitId) (f : UnitRec → UnitRec) : (setRecord u f s).station = s.station := rfl
@[simp] theorem setRecord_horn (u : UnitId) (f : UnitRec → UnitRec) : (setRecord u f s).horn = s.horn := rfl
@[simp] theorem setRecord_pollTimers (u : UnitId) (f : UnitRec → UnitRec) : (setRecord u f s).pollTimers = s.pollTimers := rfl
@[simp] theorem setRecord_ring (u : UnitId) (f : UnitRec → UnitRec) : (setRecord u f s).ring = s.ring := rfl
@[simp] theorem setRecord_board (u : UnitId) (f : UnitRec → UnitRec) : (setRecord u f s).board = s.board := rfl
@[simp] theorem setRecord_freeCount (u : UnitId) (f : UnitRec → UnitRec) : (setRecord u f s).freeCount = s.freeCount := rfl

/-! ## `endWarning` -/

@[simp] theorem endWarning_pending : (endWarning s).pending = s.pending := rfl
@[simp] theorem endWarning_store : (endWarning s).store = s.store := rfl
@[simp] theorem endWarning_gauges : (endWarning s).gauges = s.gauges := rfl
@[simp] theorem endWarning_points : (endWarning s).points = s.points := rfl
@[simp] theorem endWarning_riverUse : (endWarning s).riverUse = s.riverUse := rfl
@[simp] theorem endWarning_basins : (endWarning s).basins = s.basins := rfl
@[simp] theorem endWarning_units : (endWarning s).units = s.units := rfl
@[simp] theorem endWarning_enrol : (endWarning s).enrol = s.enrol := rfl
@[simp] theorem endWarning_engine : (endWarning s).engine = s.engine := rfl
@[simp] theorem endWarning_evalDue : (endWarning s).evalDue = s.evalDue := rfl
@[simp] theorem endWarning_limits : (endWarning s).limits = s.limits := rfl
@[simp] theorem endWarning_station : (endWarning s).station = s.station := rfl
@[simp] theorem endWarning_horn_line : (endWarning s).horn.line = false := rfl
@[simp] theorem endWarning_horn_required : (endWarning s).horn.required = s.horn.required := rfl
@[simp] theorem endWarning_horn_warningTimer : (endWarning s).horn.warningTimer = none := rfl
@[simp] theorem endWarning_horn_rearmTimer : (endWarning s).horn.rearmTimer = s.horn.rearmTimer := rfl
@[simp] theorem endWarning_pollTimers : (endWarning s).pollTimers = s.pollTimers := rfl
@[simp] theorem endWarning_ring : (endWarning s).ring = s.ring := rfl
@[simp] theorem endWarning_board : (endWarning s).board = s.board := rfl
@[simp] theorem endWarning_freeCount : (endWarning s).freeCount = s.freeCount := rfl

/-! ## `holdAllowance` -/

@[simp] theorem holdAllowance_pending (u : UnitId) (p : Purpose) : (holdAllowance u p s).pending = s.pending := rfl
@[simp] theorem holdAllowance_store (u : UnitId) (p : Purpose) : (holdAllowance u p s).store = s.store := rfl
@[simp] theorem holdAllowance_gauges (u : UnitId) (p : Purpose) : (holdAllowance u p s).gauges = s.gauges := rfl
@[simp] theorem holdAllowance_points (u : UnitId) (p : Purpose) : (holdAllowance u p s).points = s.points := rfl
@[simp] theorem holdAllowance_riverUse (u : UnitId) (p : Purpose) : (holdAllowance u p s).riverUse = s.riverUse := rfl
@[simp] theorem holdAllowance_basins (u : UnitId) (p : Purpose) : (holdAllowance u p s).basins = s.basins := rfl
@[simp] theorem holdAllowance_units (u : UnitId) (p : Purpose) : (holdAllowance u p s).units = s.units := rfl
@[simp] theorem holdAllowance_enrol (u : UnitId) (p : Purpose) : (holdAllowance u p s).enrol = s.enrol := rfl
@[simp] theorem holdAllowance_engine_stack (u : UnitId) (p : Purpose) : (holdAllowance u p s).engine.stack = s.engine.stack := rfl
@[simp] theorem holdAllowance_engine_allowance (u : UnitId) (p : Purpose) : (holdAllowance u p s).engine.allowance = .held u p := rfl
@[simp] theorem holdAllowance_engine_candidate (u : UnitId) (p : Purpose) : (holdAllowance u p s).engine.candidate = s.engine.candidate := rfl
@[simp] theorem holdAllowance_engine_spacingTimer (u : UnitId) (p : Purpose) : (holdAllowance u p s).engine.spacingTimer = s.engine.spacingTimer := rfl
@[simp] theorem holdAllowance_engine_budgetUnmet (u : UnitId) (p : Purpose) : (holdAllowance u p s).engine.budgetUnmet = s.engine.budgetUnmet := rfl
@[simp] theorem holdAllowance_engine_permitUnmet (u : UnitId) (p : Purpose) : (holdAllowance u p s).engine.permitUnmet = s.engine.permitUnmet := rfl
@[simp] theorem holdAllowance_evalDue (u : UnitId) (p : Purpose) : (holdAllowance u p s).evalDue = s.evalDue := rfl
@[simp] theorem holdAllowance_limits (u : UnitId) (p : Purpose) : (holdAllowance u p s).limits = s.limits := rfl
@[simp] theorem holdAllowance_station (u : UnitId) (p : Purpose) : (holdAllowance u p s).station = s.station := rfl
@[simp] theorem holdAllowance_horn (u : UnitId) (p : Purpose) : (holdAllowance u p s).horn = s.horn := rfl
@[simp] theorem holdAllowance_pollTimers (u : UnitId) (p : Purpose) : (holdAllowance u p s).pollTimers = s.pollTimers := rfl
@[simp] theorem holdAllowance_ring (u : UnitId) (p : Purpose) : (holdAllowance u p s).ring = s.ring := rfl
@[simp] theorem holdAllowance_board (u : UnitId) (p : Purpose) : (holdAllowance u p s).board = s.board := rfl
@[simp] theorem holdAllowance_freeCount (u : UnitId) (p : Purpose) : (holdAllowance u p s).freeCount = s.freeCount := rfl

/-! ## `endDemandPoll` -/

@[simp] theorem endDemandPoll_pending (g : GaugeId) : (endDemandPoll g s).pending = s.pending := rfl
@[simp] theorem endDemandPoll_store (g : GaugeId) : (endDemandPoll g s).store = s.store := rfl
@[simp] theorem endDemandPoll_gauges (g : GaugeId) : (endDemandPoll g s).gauges = s.gauges := rfl
@[simp] theorem endDemandPoll_points (g : GaugeId) : (endDemandPoll g s).points = s.points := rfl
@[simp] theorem endDemandPoll_riverUse (g : GaugeId) : (endDemandPoll g s).riverUse = s.riverUse := rfl
@[simp] theorem endDemandPoll_basins (g : GaugeId) : (endDemandPoll g s).basins = s.basins := rfl
@[simp] theorem endDemandPoll_units (g : GaugeId) : (endDemandPoll g s).units = s.units := rfl
@[simp] theorem endDemandPoll_enrol (g : GaugeId) : (endDemandPoll g s).enrol = s.enrol := rfl
@[simp] theorem endDemandPoll_engine_stack (g : GaugeId) : (endDemandPoll g s).engine.stack = s.engine.stack := rfl
@[simp] theorem endDemandPoll_engine_allowance (g : GaugeId) : (endDemandPoll g s).engine.allowance = s.engine.allowance := rfl
@[simp] theorem endDemandPoll_engine_candidate (g : GaugeId) : (endDemandPoll g s).engine.candidate = s.engine.candidate.map fun c => { c with confirm := c.confirm.erase g } := rfl
@[simp] theorem endDemandPoll_engine_spacingTimer (g : GaugeId) : (endDemandPoll g s).engine.spacingTimer = s.engine.spacingTimer := rfl
@[simp] theorem endDemandPoll_engine_budgetUnmet (g : GaugeId) : (endDemandPoll g s).engine.budgetUnmet = s.engine.budgetUnmet := rfl
@[simp] theorem endDemandPoll_engine_permitUnmet (g : GaugeId) : (endDemandPoll g s).engine.permitUnmet = s.engine.permitUnmet := rfl
@[simp] theorem endDemandPoll_evalDue (g : GaugeId) : (endDemandPoll g s).evalDue = s.evalDue := rfl
@[simp] theorem endDemandPoll_limits (g : GaugeId) : (endDemandPoll g s).limits = s.limits := rfl
@[simp] theorem endDemandPoll_station (g : GaugeId) : (endDemandPoll g s).station = s.station := rfl
@[simp] theorem endDemandPoll_horn (g : GaugeId) : (endDemandPoll g s).horn = s.horn := rfl
@[simp] theorem endDemandPoll_pollTimers (g : GaugeId) : (endDemandPoll g s).pollTimers = s.pollTimers := rfl
@[simp] theorem endDemandPoll_ring (g : GaugeId) : (endDemandPoll g s).ring = s.ring := rfl
@[simp] theorem endDemandPoll_board (g : GaugeId) : (endDemandPoll g s).board = s.board := rfl
@[simp] theorem endDemandPoll_freeCount (g : GaugeId) : (endDemandPoll g s).freeCount = s.freeCount := rfl

/-! ## `takeDelivered` -/

@[simp] theorem takeDelivered_pending (p : Telegram → Bool) : (takeDelivered p s).pending = s.pending := rfl
@[simp] theorem takeDelivered_store (p : Telegram → Bool) : (takeDelivered p s).store = s.store := rfl
@[simp] theorem takeDelivered_gauges (p : Telegram → Bool) : (takeDelivered p s).gauges = s.gauges := rfl
@[simp] theorem takeDelivered_points (p : Telegram → Bool) : (takeDelivered p s).points = s.points := rfl
@[simp] theorem takeDelivered_riverUse (p : Telegram → Bool) : (takeDelivered p s).riverUse = s.riverUse := rfl
@[simp] theorem takeDelivered_basins (p : Telegram → Bool) : (takeDelivered p s).basins = s.basins := rfl
@[simp] theorem takeDelivered_units (p : Telegram → Bool) : (takeDelivered p s).units = s.units := rfl
@[simp] theorem takeDelivered_enrol (p : Telegram → Bool) : (takeDelivered p s).enrol = s.enrol := rfl
@[simp] theorem takeDelivered_engine (p : Telegram → Bool) : (takeDelivered p s).engine = s.engine := rfl
@[simp] theorem takeDelivered_evalDue (p : Telegram → Bool) : (takeDelivered p s).evalDue = s.evalDue := rfl
@[simp] theorem takeDelivered_limits (p : Telegram → Bool) : (takeDelivered p s).limits = s.limits := rfl
@[simp] theorem takeDelivered_station (p : Telegram → Bool) : (takeDelivered p s).station = s.station := rfl
@[simp] theorem takeDelivered_horn (p : Telegram → Bool) : (takeDelivered p s).horn = s.horn := rfl
@[simp] theorem takeDelivered_pollTimers (p : Telegram → Bool) : (takeDelivered p s).pollTimers = s.pollTimers := rfl
@[simp] theorem takeDelivered_ring_collecting (p : Telegram → Bool) : (takeDelivered p s).ring.collecting = s.ring.collecting := rfl
@[simp] theorem takeDelivered_ring_rx (p : Telegram → Bool) : (takeDelivered p s).ring.rx = s.ring.rx := rfl
@[simp] theorem takeDelivered_ring_delivered (p : Telegram → Bool) : (takeDelivered p s).ring.delivered = s.ring.delivered.eraseP p := rfl
@[simp] theorem takeDelivered_ring_forward (p : Telegram → Bool) : (takeDelivered p s).ring.forward = s.ring.forward := rfl
@[simp] theorem takeDelivered_ring_orders (p : Telegram → Bool) : (takeDelivered p s).ring.orders = s.ring.orders := rfl
@[simp] theorem takeDelivered_ring_polls (p : Telegram → Bool) : (takeDelivered p s).ring.polls = s.ring.polls := rfl
@[simp] theorem takeDelivered_ring_replies (p : Telegram → Bool) : (takeDelivered p s).ring.replies = s.ring.replies := rfl
@[simp] theorem takeDelivered_ring_replyHeld (p : Telegram → Bool) : (takeDelivered p s).ring.replyHeld = s.ring.replyHeld := rfl
@[simp] theorem takeDelivered_ring_demandDue (p : Telegram → Bool) : (takeDelivered p s).ring.demandDue = s.ring.demandDue := rfl
@[simp] theorem takeDelivered_ring_unitDue (p : Telegram → Bool) : (takeDelivered p s).ring.unitDue = s.ring.unitDue := rfl
@[simp] theorem takeDelivered_ring_backgroundDue (p : Telegram → Bool) : (takeDelivered p s).ring.backgroundDue = s.ring.backgroundDue := rfl
@[simp] theorem takeDelivered_ring_line (p : Telegram → Bool) : (takeDelivered p s).ring.line = s.ring.line := rfl
@[simp] theorem takeDelivered_ring_rotation (p : Telegram → Bool) : (takeDelivered p s).ring.rotation = s.ring.rotation := rfl
@[simp] theorem takeDelivered_board (p : Telegram → Bool) : (takeDelivered p s).board = s.board := rfl
@[simp] theorem takeDelivered_freeCount (p : Telegram → Bool) : (takeDelivered p s).freeCount = s.freeCount := rfl

/-! ## `deliver` -/

@[simp] theorem deliver_pending (t : Telegram) : (deliver t s).pending = s.pending := rfl
@[simp] theorem deliver_store (t : Telegram) : (deliver t s).store = s.store := rfl
@[simp] theorem deliver_gauges (t : Telegram) : (deliver t s).gauges = s.gauges := rfl
@[simp] theorem deliver_points (t : Telegram) : (deliver t s).points = s.points := rfl
@[simp] theorem deliver_riverUse (t : Telegram) : (deliver t s).riverUse = s.riverUse := rfl
@[simp] theorem deliver_basins (t : Telegram) : (deliver t s).basins = s.basins := rfl
@[simp] theorem deliver_units (t : Telegram) : (deliver t s).units = s.units := rfl
@[simp] theorem deliver_enrol (t : Telegram) : (deliver t s).enrol = s.enrol := rfl
@[simp] theorem deliver_engine (t : Telegram) : (deliver t s).engine = s.engine := rfl
@[simp] theorem deliver_evalDue (t : Telegram) : (deliver t s).evalDue = s.evalDue := rfl
@[simp] theorem deliver_limits (t : Telegram) : (deliver t s).limits = s.limits := rfl
@[simp] theorem deliver_station (t : Telegram) : (deliver t s).station = s.station := rfl
@[simp] theorem deliver_horn (t : Telegram) : (deliver t s).horn = s.horn := rfl
@[simp] theorem deliver_pollTimers (t : Telegram) : (deliver t s).pollTimers = s.pollTimers := rfl
@[simp] theorem deliver_ring_collecting (t : Telegram) : (deliver t s).ring.collecting = s.ring.collecting := rfl
@[simp] theorem deliver_ring_rx (t : Telegram) : (deliver t s).ring.rx = s.ring.rx := rfl
@[simp] theorem deliver_ring_delivered (t : Telegram) : (deliver t s).ring.delivered = s.ring.delivered ++ [t] := rfl
@[simp] theorem deliver_ring_forward (t : Telegram) : (deliver t s).ring.forward = s.ring.forward := rfl
@[simp] theorem deliver_ring_orders (t : Telegram) : (deliver t s).ring.orders = s.ring.orders := rfl
@[simp] theorem deliver_ring_polls (t : Telegram) : (deliver t s).ring.polls = s.ring.polls := rfl
@[simp] theorem deliver_ring_replies (t : Telegram) : (deliver t s).ring.replies = s.ring.replies := rfl
@[simp] theorem deliver_ring_replyHeld (t : Telegram) : (deliver t s).ring.replyHeld = s.ring.replyHeld := rfl
@[simp] theorem deliver_ring_demandDue (t : Telegram) : (deliver t s).ring.demandDue = s.ring.demandDue := rfl
@[simp] theorem deliver_ring_unitDue (t : Telegram) : (deliver t s).ring.unitDue = s.ring.unitDue := rfl
@[simp] theorem deliver_ring_backgroundDue (t : Telegram) : (deliver t s).ring.backgroundDue = s.ring.backgroundDue := rfl
@[simp] theorem deliver_ring_line (t : Telegram) : (deliver t s).ring.line = s.ring.line := rfl
@[simp] theorem deliver_ring_rotation (t : Telegram) : (deliver t s).ring.rotation = s.ring.rotation := rfl
@[simp] theorem deliver_board (t : Telegram) : (deliver t s).board = s.board := rfl
@[simp] theorem deliver_freeCount (t : Telegram) : (deliver t s).freeCount = s.freeCount := rfl

/-! ## `holdReply` -/

@[simp] theorem holdReply_pending (e : ReplyEntry) : (holdReply e s).pending = s.pending := rfl
@[simp] theorem holdReply_store (e : ReplyEntry) : (holdReply e s).store = s.store := rfl
@[simp] theorem holdReply_gauges (e : ReplyEntry) : (holdReply e s).gauges = s.gauges := rfl
@[simp] theorem holdReply_points (e : ReplyEntry) : (holdReply e s).points = s.points := rfl
@[simp] theorem holdReply_riverUse (e : ReplyEntry) : (holdReply e s).riverUse = s.riverUse := rfl
@[simp] theorem holdReply_basins (e : ReplyEntry) : (holdReply e s).basins = s.basins := rfl
@[simp] theorem holdReply_units (e : ReplyEntry) : (holdReply e s).units = s.units := rfl
@[simp] theorem holdReply_enrol (e : ReplyEntry) : (holdReply e s).enrol = s.enrol := rfl
@[simp] theorem holdReply_engine (e : ReplyEntry) : (holdReply e s).engine = s.engine := rfl
@[simp] theorem holdReply_evalDue (e : ReplyEntry) : (holdReply e s).evalDue = s.evalDue := rfl
@[simp] theorem holdReply_limits (e : ReplyEntry) : (holdReply e s).limits = s.limits := rfl
@[simp] theorem holdReply_station (e : ReplyEntry) : (holdReply e s).station = s.station := rfl
@[simp] theorem holdReply_horn (e : ReplyEntry) : (holdReply e s).horn = s.horn := rfl
@[simp] theorem holdReply_pollTimers (e : ReplyEntry) : (holdReply e s).pollTimers = s.pollTimers := rfl
@[simp] theorem holdReply_ring_collecting (e : ReplyEntry) : (holdReply e s).ring.collecting = s.ring.collecting := rfl
@[simp] theorem holdReply_ring_rx (e : ReplyEntry) : (holdReply e s).ring.rx = s.ring.rx := rfl
@[simp] theorem holdReply_ring_delivered (e : ReplyEntry) : (holdReply e s).ring.delivered = s.ring.delivered := rfl
@[simp] theorem holdReply_ring_forward (e : ReplyEntry) : (holdReply e s).ring.forward = s.ring.forward := rfl
@[simp] theorem holdReply_ring_orders (e : ReplyEntry) : (holdReply e s).ring.orders = s.ring.orders := rfl
@[simp] theorem holdReply_ring_polls (e : ReplyEntry) : (holdReply e s).ring.polls = s.ring.polls := rfl
@[simp] theorem holdReply_ring_replies (e : ReplyEntry) : (holdReply e s).ring.replies = s.ring.replies ++ [e] := rfl
@[simp] theorem holdReply_ring_replyHeld (e : ReplyEntry) : (holdReply e s).ring.replyHeld = true := rfl
@[simp] theorem holdReply_ring_demandDue (e : ReplyEntry) : (holdReply e s).ring.demandDue = s.ring.demandDue := rfl
@[simp] theorem holdReply_ring_unitDue (e : ReplyEntry) : (holdReply e s).ring.unitDue = s.ring.unitDue := rfl
@[simp] theorem holdReply_ring_backgroundDue (e : ReplyEntry) : (holdReply e s).ring.backgroundDue = s.ring.backgroundDue := rfl
@[simp] theorem holdReply_ring_line (e : ReplyEntry) : (holdReply e s).ring.line = s.ring.line := rfl
@[simp] theorem holdReply_ring_rotation (e : ReplyEntry) : (holdReply e s).ring.rotation = s.ring.rotation := rfl
@[simp] theorem holdReply_board (e : ReplyEntry) : (holdReply e s).board = s.board := rfl
@[simp] theorem holdReply_freeCount (e : ReplyEntry) : (holdReply e s).freeCount = s.freeCount := rfl

/-! ## `popPoll` -/

@[simp] theorem popPoll_pending : (popPoll s).pending = s.pending := rfl
@[simp] theorem popPoll_store : (popPoll s).store = s.store := rfl
@[simp] theorem popPoll_gauges : (popPoll s).gauges = s.gauges := rfl
@[simp] theorem popPoll_points : (popPoll s).points = s.points := rfl
@[simp] theorem popPoll_riverUse : (popPoll s).riverUse = s.riverUse := rfl
@[simp] theorem popPoll_basins : (popPoll s).basins = s.basins := rfl
@[simp] theorem popPoll_units : (popPoll s).units = s.units := rfl
@[simp] theorem popPoll_enrol : (popPoll s).enrol = s.enrol := rfl
@[simp] theorem popPoll_engine : (popPoll s).engine = s.engine := rfl
@[simp] theorem popPoll_evalDue : (popPoll s).evalDue = s.evalDue := rfl
@[simp] theorem popPoll_limits : (popPoll s).limits = s.limits := rfl
@[simp] theorem popPoll_station : (popPoll s).station = s.station := rfl
@[simp] theorem popPoll_horn : (popPoll s).horn = s.horn := rfl
@[simp] theorem popPoll_pollTimers : (popPoll s).pollTimers = s.pollTimers := rfl
@[simp] theorem popPoll_ring_collecting : (popPoll s).ring.collecting = s.ring.collecting := rfl
@[simp] theorem popPoll_ring_rx : (popPoll s).ring.rx = s.ring.rx := rfl
@[simp] theorem popPoll_ring_delivered : (popPoll s).ring.delivered = s.ring.delivered := rfl
@[simp] theorem popPoll_ring_forward : (popPoll s).ring.forward = s.ring.forward := rfl
@[simp] theorem popPoll_ring_orders : (popPoll s).ring.orders = s.ring.orders := rfl
@[simp] theorem popPoll_ring_polls : (popPoll s).ring.polls = s.ring.polls.tail := rfl
@[simp] theorem popPoll_ring_replies : (popPoll s).ring.replies = s.ring.replies := rfl
@[simp] theorem popPoll_ring_replyHeld : (popPoll s).ring.replyHeld = s.ring.replyHeld := rfl
@[simp] theorem popPoll_ring_demandDue : (popPoll s).ring.demandDue = s.ring.demandDue := rfl
@[simp] theorem popPoll_ring_unitDue : (popPoll s).ring.unitDue = s.ring.unitDue := rfl
@[simp] theorem popPoll_ring_backgroundDue : (popPoll s).ring.backgroundDue = s.ring.backgroundDue := rfl
@[simp] theorem popPoll_ring_line : (popPoll s).ring.line = .gap := rfl
@[simp] theorem popPoll_ring_rotation : (popPoll s).ring.rotation = s.ring.rotation := rfl
@[simp] theorem popPoll_board : (popPoll s).board = s.board := rfl
@[simp] theorem popPoll_freeCount : (popPoll s).freeCount = s.freeCount := rfl

/-! ## `popOrder` -/

@[simp] theorem popOrder_pending : (popOrder s).pending = s.pending := rfl
@[simp] theorem popOrder_store : (popOrder s).store = s.store := rfl
@[simp] theorem popOrder_gauges : (popOrder s).gauges = s.gauges := rfl
@[simp] theorem popOrder_points : (popOrder s).points = s.points := rfl
@[simp] theorem popOrder_riverUse : (popOrder s).riverUse = s.riverUse := rfl
@[simp] theorem popOrder_basins : (popOrder s).basins = s.basins := rfl
@[simp] theorem popOrder_units : (popOrder s).units = s.units := rfl
@[simp] theorem popOrder_enrol : (popOrder s).enrol = s.enrol := rfl
@[simp] theorem popOrder_engine : (popOrder s).engine = s.engine := rfl
@[simp] theorem popOrder_evalDue : (popOrder s).evalDue = s.evalDue := rfl
@[simp] theorem popOrder_limits : (popOrder s).limits = s.limits := rfl
@[simp] theorem popOrder_station : (popOrder s).station = s.station := rfl
@[simp] theorem popOrder_horn : (popOrder s).horn = s.horn := rfl
@[simp] theorem popOrder_pollTimers : (popOrder s).pollTimers = s.pollTimers := rfl
@[simp] theorem popOrder_ring_collecting : (popOrder s).ring.collecting = s.ring.collecting := rfl
@[simp] theorem popOrder_ring_rx : (popOrder s).ring.rx = s.ring.rx := rfl
@[simp] theorem popOrder_ring_delivered : (popOrder s).ring.delivered = s.ring.delivered := rfl
@[simp] theorem popOrder_ring_forward : (popOrder s).ring.forward = s.ring.forward := rfl
@[simp] theorem popOrder_ring_orders : (popOrder s).ring.orders = s.ring.orders.eraseP fun e => e.sending := rfl
@[simp] theorem popOrder_ring_polls : (popOrder s).ring.polls = s.ring.polls := rfl
@[simp] theorem popOrder_ring_replies : (popOrder s).ring.replies = s.ring.replies := rfl
@[simp] theorem popOrder_ring_replyHeld : (popOrder s).ring.replyHeld = s.ring.replyHeld := rfl
@[simp] theorem popOrder_ring_demandDue : (popOrder s).ring.demandDue = s.ring.demandDue := rfl
@[simp] theorem popOrder_ring_unitDue : (popOrder s).ring.unitDue = s.ring.unitDue := rfl
@[simp] theorem popOrder_ring_backgroundDue : (popOrder s).ring.backgroundDue = s.ring.backgroundDue := rfl
@[simp] theorem popOrder_ring_line : (popOrder s).ring.line = .gap := rfl
@[simp] theorem popOrder_ring_rotation : (popOrder s).ring.rotation = s.ring.rotation := rfl
@[simp] theorem popOrder_board : (popOrder s).board = s.board := rfl
@[simp] theorem popOrder_freeCount : (popOrder s).freeCount = s.freeCount := rfl

/-! ## `reformUnit` -/

@[simp] theorem reformUnit_pending (u : UnitId) : (reformUnit u s).pending = s.pending := rfl
@[simp] theorem reformUnit_store (u : UnitId) : (reformUnit u s).store = s.store := rfl
@[simp] theorem reformUnit_gauges (u : UnitId) : (reformUnit u s).gauges = s.gauges := rfl
@[simp] theorem reformUnit_points (u : UnitId) : (reformUnit u s).points = s.points := rfl
@[simp] theorem reformUnit_riverUse (u : UnitId) : (reformUnit u s).riverUse = s.riverUse := rfl
@[simp] theorem reformUnit_basins (u : UnitId) : (reformUnit u s).basins = s.basins := rfl
@[simp] theorem reformUnit_units (u : UnitId) : (reformUnit u s).units = upd s.units u fun r => { r with est := estimateFor s u } := rfl
@[simp] theorem reformUnit_enrol (u : UnitId) : (reformUnit u s).enrol = s.enrol := rfl
@[simp] theorem reformUnit_engine (u : UnitId) : (reformUnit u s).engine = s.engine := rfl
@[simp] theorem reformUnit_evalDue (u : UnitId) : (reformUnit u s).evalDue = s.evalDue := rfl
@[simp] theorem reformUnit_limits (u : UnitId) : (reformUnit u s).limits = s.limits := rfl
@[simp] theorem reformUnit_station (u : UnitId) : (reformUnit u s).station = s.station := rfl
@[simp] theorem reformUnit_horn (u : UnitId) : (reformUnit u s).horn = s.horn := rfl
@[simp] theorem reformUnit_pollTimers (u : UnitId) : (reformUnit u s).pollTimers = s.pollTimers := rfl
@[simp] theorem reformUnit_ring (u : UnitId) : (reformUnit u s).ring = s.ring := rfl
@[simp] theorem reformUnit_board (u : UnitId) : (reformUnit u s).board = s.board := rfl
@[simp] theorem reformUnit_freeCount (u : UnitId) : (reformUnit u s).freeCount = s.freeCount := rfl

end Sys2Proof.Machine
end

