-- ==== Sys2Proof/Laws/Frames.lean ====
section
/-! SUPPORT. What each shared operation can do, said once: the parts of the state that it may change, and what
it leaves in them. -/

namespace Sys2Proof.Machine

open Sys2Proof

/-! ## `unchangedBut` -/

theorem same_refl (s : State) (p : Part) : same s s p := by cases p <;> simp [same]

theorem same_trans {s t w : State} {p : Part} (h : same s t p) (k : same t w p) : same s w p := by
  cases p <;> simp_all [same]

theorem unchangedBut_refl (l : List Part) (s : State) : unchangedBut l s s := fun p _ => same_refl s p

theorem unchangedBut_mono {l m : List Part} {s t : State} (h : unchangedBut l s t) (hs : ∀ p ∈ l, p ∈ m) :
    unchangedBut m s t := fun p hp => h p fun hl => hp (hs p hl)

theorem unchangedBut_trans {l : List Part} {s t w : State} (h : unchangedBut l s t) (k : unchangedBut l t w) :
    unchangedBut l s w := fun p hp => same_trans (h p hp) (k p hp)

/-! ## Readiness -/

/-- An event taken when ready answers a next state, by `f` when the controller is ready, else as it stood. -/
theorem whenReady_next (s : State) (f : State → State) :
    whenReady s f = .next (if s.ready then f s else s) := rfl

theorem whenReady_ready {s : State} (h : s.ready = true) (f : State → State) : whenReady s f = .next (f s) := by
  simp [whenReady, h]

@[simp] theorem unitNumbered_unitNumber (u : UnitId) : unitNumbered (unitNumber u) = some u := by
  revert u; decide

@[simp] theorem gaugeNumbered_val (g : GaugeId) : gaugeNumbered g.val = some g := by
  revert g; decide

@[simp] theorem pointNumbered_succ (p : PointId) : pointNumbered (p.val + 1) = some p := by
  revert p; decide

theorem onUnit_ready {s : State} (h : s.ready = true) (u : UnitId) (f : UnitId → State → State) :
    onUnit (unitNumber u) s f = .next (f u s) := by
  simp [onUnit, whenReady_ready h]

theorem onGauge_ready {s : State} (h : s.ready = true) (g : GaugeId) (f : GaugeId → State → State) :
    onGauge g.val s f = .next (f g s) := by
  simp [onGauge, whenReady_ready h]

theorem onPoint_ready {s : State} (h : s.ready = true) (p : PointId) (f : PointId → State → State) :
    onPoint (p.val + 1) s f = .next (f p s) := by
  simp [onPoint, whenReady_ready h]

/-! ## The arbiter -/

theorem markSending_unsent (p : OrderEntry → Bool) (l : List OrderEntry) :
    (markSending p l).map OrderEntry.unsent = l.map OrderEntry.unsent := by
  induction l with
  | nil => rfl
  | cons e l ih =>
    simp only [markSending]
    split
    · rfl
    · simp [ih]

/-- What a grant leaves of the ring: everything but the line, the rotation pointer and the marks of the order
queue. -/
theorem grantRing_fields (r : Ring) :
    (grantRing r).orders.map OrderEntry.unsent = r.orders.map OrderEntry.unsent
    ∧ (grantRing r).collecting = r.collecting ∧ (grantRing r).rx = r.rx ∧ (grantRing r).delivered = r.delivered
    ∧ (grantRing r).forward = r.forward ∧ (grantRing r).polls = r.polls ∧ (grantRing r).replies = r.replies
    ∧ (grantRing r).replyHeld = r.replyHeld ∧ (grantRing r).demandDue = r.demandDue
    ∧ (grantRing r).unitDue = r.unitDue ∧ (grantRing r).backgroundDue = r.backgroundDue := by
  unfold grantRing
  split
  · simp [markSending_unsent]
  · split
    · simp
    · split
      · simp
      · dsimp only
        split <;> simp [markSending_unsent]

/-- The frame of the arbiter (R167): it changes the line alone, and a grant is of an idle line with the relay
open. -/
theorem grant_frame (s : State) : unchangedBut [.line] s (grant s) := by
  have h := grantRing_fields s.ring
  unfold grant
  split
  · intro p hp
    cases p <;> simp_all [same]
  · exact unchangedBut_refl _ s

theorem grant_replyHeld (s : State) : (grant s).ring.replyHeld = s.ring.replyHeld := by
  unfold grant
  split
  · exact (grantRing_fields s.ring).2.2.2.2.2.2.2.1
  · rfl

theorem grant_of_line {s : State} (h : s.ring.line ≠ .idle) : grant s = s := by
  simp [grant, canGrant, h]

theorem foldl_olderHalt (l : List OrderEntry) (a : OrderEntry) :
    l.foldl olderHalt a ∈ a :: l ∧ ∀ f ∈ a :: l, (l.foldl olderHalt a).haltTurn ≤ f.haltTurn := by
  induction l generalizing a with
  | nil => simp
  | cons b l ih =>
    obtain ⟨hm, hl⟩ := ih (olderHalt a b)
    have ho : (olderHalt a b = a ∨ olderHalt a b = b)
        ∧ (olderHalt a b).haltTurn ≤ a.haltTurn ∧ (olderHalt a b).haltTurn ≤ b.haltTurn := by
      unfold olderHalt
      split <;> simp <;> omega
    have hc := hl _ (List.mem_cons_self ..)
    rw [List.foldl_cons]
    refine ⟨?_, fun f hf => ?_⟩
    · rcases List.mem_cons.1 hm with h | h
      · rw [h]; rcases ho.1 with e | e <;> simp [e]
      · simp [h]
    · rcases List.mem_cons.1 hf with rfl | hf
      · omega
      · rcases List.mem_cons.1 hf with rfl | hf
        · omega
        · exact hl f (List.mem_cons_of_mem _ hf)

/-- The oldest HALT is a HALT of the order queue that no other is older than (R167). -/
theorem oldestHalt_some {l : List OrderEntry} {e : OrderEntry} (h : oldestHalt l = some e) :
    e ∈ l ∧ isHalt e = true ∧ ∀ f ∈ l, isHalt f = true → e.haltTurn ≤ f.haltTurn := by
  unfold oldestHalt at h
  split at h
  · cases h
  · rename_i a r hr
    cases h
    obtain ⟨hm, hl⟩ := foldl_olderHalt r a
    rw [← hr] at hm hl
    exact ⟨(List.mem_filter.1 hm).1, (List.mem_filter.1 hm).2, fun f hf hh => hl f (List.mem_filter.2 ⟨hf, hh⟩)⟩

/-- There is no oldest HALT exactly where the order queue holds none (R167). -/
theorem oldestHalt_none {l : List OrderEntry} : oldestHalt l = none ↔ ∀ e ∈ l, isHalt e = false := by
  unfold oldestHalt
  split
  · rename_i h; simpa using List.filter_eq_nil_iff.1 h
  · rename_i a r h
    simp only [reduceCtorEq, false_iff]
    have ha : a ∈ l.filter isHalt := by simp [h]
    exact fun k => absurd (List.mem_filter.1 ha).2 (by simp [k a (List.mem_filter.1 ha).1])

/-- The first deposited of several HALTs stands with later ones behind it and strictly later ones before it. -/
theorem olderHalt_foldl (r : List OrderEntry) (e : OrderEntry) :
    ∃ a b, e :: r = a ++ r.foldl olderHalt e :: b
      ∧ (∀ f ∈ a, (r.foldl olderHalt e).haltTurn < f.haltTurn)
      ∧ ∀ f ∈ b, (r.foldl olderHalt e).haltTurn ≤ f.haltTurn := by
  induction r generalizing e with
  | nil => exact ⟨[], [], rfl, by simp, by simp⟩
  | cons x r ih =>
    obtain ⟨a, b, h, ha, hb⟩ := ih (olderHalt e x)
    rw [List.foldl_cons]
    generalize hm : r.foldl olderHalt (olderHalt e x) = m at h ha hb
    by_cases hx : x.haltTurn < e.haltTurn
    · have he : olderHalt e x = x := by simp [olderHalt, hx]
      rw [he] at h
      refine ⟨e :: a, b, by rw [h]; rfl, ?_, hb⟩
      intro f hf
      rcases List.mem_cons.mp hf with rfl | hf
      · cases a with
        | nil => simp only [List.nil_append, List.cons.injEq] at h; rw [← h.1]; exact hx
        | cons y a =>
          simp only [List.cons_append, List.cons.injEq] at h
          exact Nat.lt_trans (ha y (by simp)) (h.1 ▸ hx)
      · exact ha f hf
    · have he : olderHalt e x = e := by simp [olderHalt, hx]
      rw [he] at h
      cases a with
      | nil =>
        simp only [List.nil_append, List.cons.injEq] at h
        obtain ⟨rfl, rfl⟩ := h
        refine ⟨[], x :: r, rfl, by simp, ?_⟩
        intro f hf
        rcases List.mem_cons.mp hf with rfl | hf
        · omega
        · exact hb f hf
      | cons y a =>
        simp only [List.cons_append, List.cons.injEq] at h
        obtain ⟨rfl, rfl⟩ := h
        refine ⟨e :: x :: a, b, rfl, ?_, hb⟩
        intro f hf
        have h1 := ha e (by simp)
        rcases List.mem_cons.mp hf with rfl | hf
        · exact h1
        · rcases List.mem_cons.mp hf with rfl | hf
          · omega
          · exact ha f (by simp [hf])

/-- Where the HALT deposited first stands in the order queue (R167). -/
theorem oldestHalt_split {l : List OrderEntry} {e : OrderEntry} (h : oldestHalt l = some e) :
    ∃ a b, l = a ++ e :: b ∧ isHalt e = true ∧ (∀ f ∈ a, isHalt f = true → e.haltTurn < f.haltTurn)
      ∧ (∀ f ∈ b, isHalt f = true → e.haltTurn ≤ f.haltTurn)
      ∧ markSending (fun x => decide (x = e)) l = a ++ { e with sending := true } :: b := by
  unfold oldestHalt at h
  split at h
  · cases h
  · rename_i x r hf
    cases h
    obtain ⟨a, b, hs, ha, hb⟩ := olderHalt_foldl r x
    generalize r.foldl olderHalt x = m at hs ha hb
    rw [hs] at hf
    obtain ⟨p, q, rfl, hp, hq⟩ := List.filter_eq_append_iff.mp hf
    obtain ⟨p', q', rfl, hp', hm, hq'⟩ := List.filter_eq_cons_iff.mp hq
    have hlt : ∀ f ∈ p ++ p', isHalt f = true → m.haltTurn < f.haltTurn := by
      intro f hf1 hf2
      rcases List.mem_append.mp hf1 with h1 | h1
      · exact ha f (hp ▸ List.mem_filter.mpr ⟨h1, hf2⟩)
      · exact absurd hf2 (hp' f h1)
    refine ⟨p ++ p', q', by simp, hm, hlt, fun f h1 h2 => hb f (hq' ▸ List.mem_filter.mpr ⟨h1, h2⟩), ?_⟩
    rw [← List.append_assoc]
    generalize p ++ p' = c at hlt
    induction c with
    | nil => simp [markSending]
    | cons y c ih =>
      have hy : y ≠ m := by
        rintro rfl
        exact Nat.lt_irrefl _ (hlt y (by simp) hm)
      simp only [List.cons_append, markSending, decide_eq_true_eq, hy, if_false]
      rw [ih (fun f hf => hlt f (by simp [hf]))]

/-- All that a grant of an idle line does (R167). -/
theorem grant_spec {s : State} (h : lineOpen s) : grantedFrom s.ring (grant s) := by
  obtain ⟨h1, h2, h3⟩ := h
  unfold grantedFrom grant
  simp only [canGrant, h1, h2, h3, ne_eq, not_false_eq_true, decide_true, Bool.not_false, Bool.and_self, if_true]
  unfold grantRing
  cases ho : oldestHalt s.ring.orders with
  | some e =>
    obtain ⟨a, b, hl, hh, ha, hb, hm⟩ := oldestHalt_split ho
    rw [if_pos (List.any_eq_true.mpr ⟨e, by simp [hl], hh⟩)]
    exact ⟨rfl, a, b, e, hl, hh, ha, hb, hm, rfl⟩
  | none =>
    rw [if_neg (by simpa using oldestHalt_none.mp ho)]
    cases hq : s.ring.rotation.cycle.find? fun q => (queueHead s.ring q).isSome with
    | none => exact ⟨h1, rfl, rfl⟩
    | some q =>
      obtain ⟨x, hx⟩ := Option.isSome_iff_exists.mp
        (List.find?_some (p := fun q => (queueHead s.ring q).isSome) hq)
      dsimp only
      rw [hx]
      refine ⟨⟨x, rfl, rfl⟩, rfl, ?_⟩
      cases q <;> simp
      cases s.ring.orders <;> simp [markSending]

theorem foldl_max_le (l : List OrderEntry) (n : Nat) :
    n ≤ l.foldl (fun n e => max n e.haltTurn) n ∧ ∀ e ∈ l, e.haltTurn ≤ l.foldl (fun n e => max n e.haltTurn) n := by
  induction l generalizing n with
  | nil => simp
  | cons a l ih =>
    obtain ⟨h, k⟩ := ih (max n a.haltTurn)
    rw [List.foldl_cons]
    refine ⟨by omega, fun e he => ?_⟩
    rcases List.mem_cons.1 he with rfl | he
    · omega
    · exact k e he

/-- A HALT deposited now stands behind every entry's turn (R167, log entry 42). -/
theorem lt_nextTurn {l : List OrderEntry} {e : OrderEntry} (h : e ∈ l) : e.haltTurn < nextTurn l :=
  Nat.lt_succ_of_le ((foldl_max_le l 0).2 e h)

/-! ## Octets on the line -/

/-- An octet as the controller sends it has right parity (R158). -/
@[simp] theorem parityOk_sent (o : Octet) : parityOk (sent o) = true := by simp [parityOk, sent]

@[simp] theorem sent_value (o : Octet) : (sent o).value = o := rfl

/-! ## Deposits -/

theorem depositReply_frame (e : ReplyEntry) (s : State) : unchangedBut [.replies, .line] s (depositReply e s) := by
  refine unchangedBut_trans (t := { s with ring := { s.ring with replies := s.ring.replies ++ [e] } }) ?_
    (unchangedBut_mono (grant_frame _) (by simp))
  intro p hp
  cases p <;> simp_all [same]

theorem depositReply_replies (e : ReplyEntry) (s : State) :
    (depositReply e s).ring.replies = s.ring.replies ++ [e] :=
  grant_frame { s with ring := { s.ring with replies := s.ring.replies ++ [e] } } .replies (by simp)

theorem depositForward_frame (x : Telegram) (s : State) :
    unchangedBut [.forwarded, .line] s (depositForward x s) := by
  refine unchangedBut_trans (t := { s with ring := { s.ring with forward := s.ring.forward ++ [x] } }) ?_
    (unchangedBut_mono (grant_frame _) (by simp))
  intro p hp
  cases p <;> simp_all [same]

theorem depositForward_forward (x : Telegram) (s : State) :
    (depositForward x s).ring.forward = s.ring.forward ++ [x] :=
  grant_frame { s with ring := { s.ring with forward := s.ring.forward ++ [x] } } .forwarded (by simp)

theorem depositOrder_frame (i : OrderItem) (s : State) : unchangedBut [.orders, .line] s (depositOrder i s) := by
  refine unchangedBut_trans
    (t := { s with ring := { s.ring with orders := withPlace s.ring.orders ++ [newEntry i s.ring.orders] } })
    ?_ (unchangedBut_mono (grant_frame _) (by simp))
  intro p hp
  cases p <;> simp_all [same]

/-- With a place left, a deposit takes none away (R165). -/
theorem withPlace_of_lt {l : List OrderEntry} (h : l.length < 16) : withPlace l = l := if_pos h

/-- In a full queue the oldest enrolment telegram that waits gives its place up (log entry 15). -/
theorem withPlace_of_le {l : List OrderEntry} (h : 16 ≤ l.length) : withPlace l = l.eraseP waitsToEnrol :=
  if_neg (Nat.not_lt.mpr h)

/-- What keeps a place stood in the queue before. -/
theorem withPlace_sublist (l : List OrderEntry) : (withPlace l).Sublist l := by
  unfold withPlace
  split
  · exact List.Sublist.refl l
  · exact List.eraseP_sublist

/-- A unit order keeps its place, and so does an enrolment telegram on the line (R165). -/
theorem mem_withPlace_of_stays {e : OrderEntry} {l : List OrderEntry} (h : e ∈ l) (w : waitsToEnrol e = false) :
    e ∈ withPlace l := by
  unfold withPlace
  split
  · exact h
  · exact (List.mem_eraseP_of_neg (by simp [w])).mpr h

/-- An entry deposited stands at the tail of the order queue, the others as they stood, one that has no place left for
it apart. -/
theorem depositOrder_orders (i : OrderItem) (s : State) :
    (depositOrder i s).ring.orders.map OrderEntry.unsent
      = (withPlace s.ring.orders).map OrderEntry.unsent ++ [newEntry i s.ring.orders] := by
  have h := grant_frame
    { s with ring := { s.ring with orders := withPlace s.ring.orders ++ [newEntry i s.ring.orders] } } .orders (by decide)
  simpa [same, depositOrder, OrderEntry.unsent, newEntry] using h

/-! ## Standby and the conditions -/

theorem trigger_frame (s : State) : unchangedBut [.evaluations] s (trigger s) := by
  intro p hp
  cases p <;> simp_all [same]

theorem standbyExit_frame (s : State) :
    unchangedBut [.standby, .pollTimers, .hornRequired, .evaluations] s (standbyExit s) := by
  unfold standbyExit
  split
  · intro p hp
    cases p <;> simp_all [same]
  · exact unchangedBut_refl _ s

/-- From ON the exit ends standby as R155 says. -/
theorem standbyExit_ended {s : State} (h : s.station.standby = true) : standbyEnded s (standbyExit s) := by
  simp [standbyEnded, standbyExit, h, trigger]

/-- While standby is OFF the exit does nothing (R153). -/
theorem standbyExit_off {s : State} (h : s.station.standby = false) : standbyExit s = s := by
  simp [standbyExit, h]

theorem bump_frame (f : Counters → Counters) (s : State) : unchangedBut [.counters] s (bump f s) := by
  intro p hp
  cases p <;> simp_all [same]

theorem attention_frame (c : Condition) (s : State) :
    unchangedBut [.counters, .replies, .line] s (attention c s) := by
  unfold attention
  split
  · split
    · exact unchangedBut_mono (depositReply_frame _ s) (by simp)
    · exact unchangedBut_mono (bump_frame _ s) (by simp)
  · exact unchangedBut_refl _ s

theorem setPending_frame (c : Condition) (b : Bool) (s : State) : unchangedBut [.conditions] s (setPending c b s) := by
  intro p hp
  cases p <;> simp_all [same]

@[simp] theorem isPending_setPending_self (c : Condition) (b : Bool) (s : State) :
    isPending c (setPending c b s) = b := by
  simp [isPending]

theorem index_injective {c d : Condition} (h : c.index = d.index) : c = d := by
  cases c <;> cases d <;> first | rfl | exact absurd h (by decide)

theorem isPending_setPending_of_ne {c d : Condition} (h : d ≠ c) (b : Bool) (s : State) :
    isPending d (setPending c b s) = isPending d s := by
  have k : c.index.val ≠ d.index.val := fun e => h (index_injective (Fin.ext e)).symm
  simp [isPending, k]

/-- Whether a condition is pending depends on the condition set alone. -/
theorem isPending_congr {s t : State} (h : same s t .conditions) (c : Condition) : isPending c t = isPending c s := by
  simp only [isPending]
  rw [show t.station.conditions = s.station.conditions from h]

/-- A condition that goes pending changes the parts of `announcing` at the most, and of `latching` where its code
is above 6 (R153, R180). -/
theorem raiseCondition_frame (c : Condition) (s : State) :
    unchangedBut (if c.wakes then announcing else latching) s (raiseCondition c s) := by
  have h : unchangedBut latching s (attention c (setPending c true s)) :=
    unchangedBut_trans (unchangedBut_mono (setPending_frame c true s) (by simp [latching]))
      (unchangedBut_mono (attention_frame c _) (by simp [latching]))
  by_cases hp : isPending c s = true
  · simp only [raiseCondition, hp, if_true]
    exact unchangedBut_refl _ s
  · by_cases hw : c.wakes = true
    · simp only [raiseCondition, hp, hw, if_true]
      exact unchangedBut_trans (unchangedBut_mono h (by simp [latching, announcing]))
        (unchangedBut_mono (standbyExit_frame _) (by simp [announcing]))
    · simp only [raiseCondition, hp, hw]
      exact h

theorem raiseCondition_announcing (c : Condition) (s : State) : unchangedBut announcing s (raiseCondition c s) := by
  refine unchangedBut_mono (raiseCondition_frame c s) ?_
  split <;> simp [latching, announcing]

/-- A condition that goes pending is the only one that changes. -/
theorem isPending_raiseCondition (c d : Condition) (s : State) :
    isPending d (raiseCondition c s) = if d = c then true else isPending d s := by
  unfold raiseCondition
  split
  · rename_i h
    split
    · rename_i e; rw [e, h]
    · rfl
  · have h : isPending d (attention c (setPending c true s)) = if d = c then true else isPending d s := by
      rw [isPending_congr (attention_frame c (setPending c true s) .conditions (by simp))]
      split
      · rename_i e; rw [e, isPending_setPending_self]
      · rename_i e; exact isPending_setPending_of_ne e _ _
    dsimp only
    split
    · rw [isPending_congr (standbyExit_frame (attention c (setPending c true s)) .conditions (by simp)), h]
    · exact h

theorem reportCondition_announcing (c : Condition) (b : Bool) (s : State) :
    unchangedBut announcing s (reportCondition c b s) := by
  unfold reportCondition
  split
  · exact raiseCondition_announcing c s
  · exact unchangedBut_mono (setPending_frame c false s) (by simp [announcing])

/-- A report leaves its condition as reported and every other as it was (R177). -/
theorem isPending_reportCondition (c d : Condition) (b : Bool) (s : State) :
    isPending d (reportCondition c b s) = if d = c then b else isPending d s := by
  unfold reportCondition
  split
  · rename_i h; rw [isPending_raiseCondition, h]
  · rename_i h
    split
    · rename_i e; rw [e, isPending_setPending_self]; simpa using h
    · rename_i e; exact isPending_setPending_of_ne e _ _

/-! ## The poll queue -/

theorem fillPollsFor_frame (n : Nat) (s : State) : unchangedBut [.polls, .due, .line] s (fillPollsFor n s) := by
  induction n generalizing s with
  | zero => exact unchangedBut_refl _ s
  | succ n ih =>
    unfold fillPollsFor
    split
    · split
      · refine unchangedBut_trans ?_ (ih _)
        refine unchangedBut_trans ?_ (unchangedBut_mono (grant_frame _) (by simp))
        intro p hp
        cases p <;> simp_all [same, removeDue] <;> split <;> simp
      · exact unchangedBut_refl _ s
    · exact unchangedBut_refl _ s

/-- Filling the poll queue changes the poll queue, the due list and the line alone (R18). -/
theorem fillPolls_frame (s : State) : unchangedBut [.polls, .due, .line] s (fillPolls s) := fillPollsFor_frame 4 s

end Sys2Proof.Machine
end

