-- ==== Sys2Proof/Laws/Units.lean ====
section
/-! SUPPORT. What a unit's transition, a vote with its publication, the taking of a request and the checks of a
basin record write can do, each said once. -/

namespace Sys2Proof.Machine

open Sys2Proof

/-! ## A unit's transition -/

/-- A unit whose two parts are the same is the same. -/
theorem unit_eq_of_same {s t : State} (h : same s t .units) (k : same s t .estimates) (u : UnitId) :
    t.units[u] = s.units[u] := by
  have hb : t.units[u].bare = s.units[u].bare := h u
  have he : t.units[u].est = s.units[u].est := k u
  revert hb he
  generalize t.units[u] = a
  generalize s.units[u] = b
  intro hb he
  cases a
  cases b
  simp_all [UnitRt.bare]

theorem reportIdle_frame (s : State) : unchangedBut [.idle, .rearm] s (reportIdle s) := by
  unfold reportIdle
  split
  · exact unchangedBut_refl _ s
  · intro p hp
    cases p <;> simp_all [same]

theorem unitConditions_frame (s : State) : unchangedBut announcing s (unitConditions s) :=
  unchangedBut_trans (reportCondition_announcing _ _ s) (reportCondition_announcing _ _ _)

/-- The reports that follow a transition: the idle state and the two conditions of the units (R99, R71, R83). -/
theorem unitReports_frame (s : State) :
    unchangedBut ([.idle, .rearm] ++ announcing) s (unitConditions (reportIdle s)) :=
  unchangedBut_trans (unchangedBut_mono (reportIdle_frame s) (by simp))
    (unchangedBut_mono (unitConditions_frame _) (by decide))

theorem reformUnit_frame (u : UnitId) (s : State) : unchangedBut [.estimates] s (reformUnit u s) := by
  intro p hp
  cases p <;> simp_all [same]
  intro v
  by_cases h : v = u
  · subst h; simp [UnitRt.bare]
  · have k := upd_of_ne s.units u v (fun r => { r with est := estimateFor s u }) h
    simp only [Fin.getElem_fin] at k ⊢
    rw [k]

theorem endWarning_frame (s : State) : unchangedBut [.hornLine] s (endWarning s) := by
  intro p hp
  cases p <;> simp_all [same]

/-- The state of a transition before its reports: the unit, the stack, the allowance and the candidacy. -/
def entered (u : UnitId) (st : UnitState) (x : Option Stage) (s : State) : State :=
  { s with units := upd s.units u (enterState st x), engine := engineMoved u st s.engine }

theorem entered_frame (u : UnitId) (st : UnitState) (x : Option Stage) (s : State) :
    unchangedBut [.units, .estimates, .stack, .allowance, .candidate] s (entered u st x s) := by
  intro p hp
  cases p <;> simp_all [same, entered, engineMoved]

/-- A transition is the entry into the state, the end of a warning period whose candidacy it ends, the reports
(R71, R83, R99), and the estimate formed again where the stage changes (R39). -/
theorem moveUnit_eq (u : UnitId) (st : UnitState) (x : Option Stage) (s : State) :
    ∃ w, (w = entered u st x s ∨ w = endWarning (entered u st x s))
      ∧ (moveUnit u st x s = unitConditions (reportIdle w)
        ∨ moveUnit u st x s = reformUnit u (unitConditions (reportIdle w))) := by
  refine ⟨if s.engine.candidate.isSome && (entered u st x s).engine.candidate.isNone
    then endWarning (entered u st x s) else entered u st x s, ?_, ?_⟩
  · split
    · exact .inr rfl
    · exact .inl rfl
  · by_cases h : s.units[u].stage = x
    · exact .inl (if_pos h)
    · exact .inr (if_neg h)

/-- A transition changes the parts of `moving` at the most. -/
theorem moveUnit_frame (u : UnitId) (st : UnitState) (x : Option Stage) (s : State) :
    unchangedBut moving s (moveUnit u st x s) := by
  obtain ⟨w, hw, hm⟩ := moveUnit_eq u st x s
  have h1 : unchangedBut moving s w := by
    have h := unchangedBut_mono (m := moving) (entered_frame u st x s) (by decide)
    rcases hw with rfl | rfl
    · exact h
    · exact unchangedBut_trans h (unchangedBut_mono (endWarning_frame _) (by decide))
  have h2 : unchangedBut moving s (unitConditions (reportIdle w)) :=
    unchangedBut_trans h1 (unchangedBut_mono (unitReports_frame w) (by decide))
  rcases hm with hm | hm <;> rw [hm]
  · exact h2
  · exact unchangedBut_trans h2 (unchangedBut_mono (reformUnit_frame u _) (by decide))

/-- A transition is of its own unit: the others stay as they are, and the unit enters the state with the stage, its
timers as the state has them (4.6). -/
theorem moveUnit_units (u : UnitId) (st : UnitState) (x : Option Stage) (s : State) :
    (∀ v : UnitId, v ≠ u → (moveUnit u st x s).units[v] = s.units[v])
    ∧ (moveUnit u st x s).units[u].bare = (enterState st x s.units[u]).bare := by
  obtain ⟨w, hw, hm⟩ := moveUnit_eq u st x s
  have hwu : w.units = upd s.units u (enterState st x) := by rcases hw with rfl | rfl <;> rfl
  have hr : ∀ v : UnitId, (unitConditions (reportIdle w)).units[v] = w.units[v] :=
    unit_eq_of_same (unitReports_frame w .units (by decide)) (unitReports_frame w .estimates (by decide))
  have hself : (unitConditions (reportIdle w)).units[u] = enterState st x s.units[u] := by
    rw [hr u, hwu, upd_getElem, if_pos rfl]
  have hrest : ∀ v : UnitId, v ≠ u → (unitConditions (reportIdle w)).units[v] = s.units[v] := by
    intro v hv
    rw [hr v, hwu, upd_getElem, if_neg hv]
  rcases hm with hm | hm <;> rw [hm]
  · exact ⟨hrest, by rw [hself]⟩
  · constructor
    · intro v hv
      rw [reformUnit_units, upd_getElem, if_neg hv]
      exact hrest v hv
    · rw [reformUnit_frame u _ .units (by simp) u, hself]

/-! ## Votes and publications -/

theorem votePoint_frame (p : PointId) (s : State) : unchangedBut [.points] s (votePoint p s) := by
  unfold votePoint
  split
  · intro q hq
    cases q <;> simp_all [same]
  · exact unchangedBut_refl _ s

theorem pointConditions_frame (s : State) : unchangedBut announcing s (pointConditions s) :=
  unchangedBut_trans (reportCondition_announcing _ _ s) (reportCondition_announcing _ _ _)

theorem reformWhere_frame (f : UnitRec → Bool) (s : State) : unchangedBut [.estimates] s (reformWhere f s) := by
  intro p hp
  cases p <;> simp_all [same, reformWhere]
  intro u
  split <;> simp [UnitRt.bare]

/-- What a basin's change publishes (R57): the basin, BASIN CRITICAL, the end of standby and the trigger. -/
theorem publishBasin_frame (b : BasinId) (new : BasinRt) (s : State) :
    unchangedBut (.basins :: announcing) s (publishBasin b new s) := by
  have hs : ∀ w : State, unchangedBut (.basins :: announcing) w (standbyExit w) := fun w =>
    unchangedBut_mono (standbyExit_frame w) (by decide)
  have ht : ∀ w : State, unchangedBut (.basins :: announcing) w (trigger w) := fun w =>
    unchangedBut_mono (trigger_frame w) (by decide)
  have hc : ∀ (c : Condition) (x : Bool) (w : State), unchangedBut (.basins :: announcing) w (reportCondition c x w) :=
    fun c x w => unchangedBut_mono (reportCondition_announcing c x w) (by decide)
  have h1 : unchangedBut (.basins :: announcing) s { s with basins := upd s.basins b fun _ => new } := by
    intro p hp
    cases p <;> simp_all [same]
  by_cases h : new = s.basins[b]
  · simp only [publishBasin, h, if_true]
    exact unchangedBut_refl _ s
  · simp only [publishBasin, h, if_false, triggerIf]
    split <;> split <;> split <;>
      first
      | exact unchangedBut_trans (unchangedBut_trans (unchangedBut_trans h1 (hc _ _ _)) (hs _)) (ht _)
      | exact unchangedBut_trans (unchangedBut_trans h1 (hc _ _ _)) (hs _)
      | exact unchangedBut_trans (unchangedBut_trans h1 (hc _ _ _)) (ht _)
      | exact unchangedBut_trans (unchangedBut_trans h1 (hs _)) (ht _)
      | exact unchangedBut_trans h1 (hc _ _ _)
      | exact unchangedBut_trans h1 (hs _)
      | exact unchangedBut_trans h1 (ht _)
      | exact h1

/-- A publication changes the parts of `voting` at the most (R15, R16, R37, R57). -/
theorem publishPoint_frame (p : PointId) (s : State) : unchangedBut voting s (publishPoint p s) := by
  have hv : ∀ q ∈ announcing, q ∈ voting := by decide
  have h1 : unchangedBut voting s { s with points := upd s.points p fun x => { x with published := x.cur } } := by
    refine unchangedBut_mono (l := [.points]) ?_ (by decide)
    intro q hq
    cases q <;> simp_all [same]
  have hreform : ∀ (f : UnitRec → Bool) (w : State), unchangedBut voting w (reformWhere f w) := fun f w =>
    unchangedBut_mono (reformWhere_frame f w) (by decide)
  have hb : ∀ (b : BasinId) (w : State), unchangedBut voting w (basinReaction b w) := by
    intro b w
    refine unchangedBut_trans (t := demandPublication b w) ?_ (hreform (fun r => decide (r.basin = b)) _)
    unfold demandPublication
    split
    · exact unchangedBut_mono (publishBasin_frame _ _ _) (by decide)
    · exact unchangedBut_refl _ w
  have hr : ∀ w : State, unchangedBut voting w (riverPublication w) := by
    intro w
    refine unchangedBut_trans (t := { w with riverUse := riverLevelInUse w.store w.points[riverPoint].published }) ?_
      (hreform (fun _ => true) _)
    refine unchangedBut_mono (l := [.river]) ?_ (by decide)
    intro q hq
    cases q <;> simp_all [same]
  have hend : ∀ w : State, unchangedBut voting w (trigger (pointConditions w)) := fun w =>
    unchangedBut_trans (unchangedBut_mono (pointConditions_frame w) hv)
      (unchangedBut_mono (trigger_frame _) (by decide))
  by_cases h : s.points[p].cur = s.points[p].published
  · simp only [publishPoint, publishPointWith, h, if_true]
    exact unchangedBut_refl _ s
  · simp only [publishPoint, publishPointWith, h, if_false]
    refine unchangedBut_trans ?_ (hend _)
    split
    · exact unchangedBut_trans h1 (hb _ _)
    · exact unchangedBut_trans h1 (hr _)

/-- A vote without counting and its publication change the parts of `voting` at the most. -/
theorem revote_frame (p : PointId) (s : State) : unchangedBut voting s (revote p s) :=
  unchangedBut_trans (unchangedBut_mono (votePoint_frame p s) (by decide)) (publishPoint_frame p _)

/-! ## Requests -/

/-- A request that is taken: the reply takes its place, the effect acts, and the reply is deposited (R172). -/
theorem request_taken {kind : Octet} {p : List Octet} {s : State} (h : takes kind p s) (rule : State → Verdict) :
    request kind p rule s
      = .next (answerRequest kind (rule (takeDelivered (sameTelegram kind addrSupervisor p) s))
          (takeDelivered (sameTelegram kind addrSupervisor p) s)) := by
  simp [request, whenReady, h.1, takeRequest, h.2]

/-- A request that is not taken leaves the machine as it stands (log entries 3 and 7). -/
theorem request_not_taken {kind : Octet} {p : List Octet} {s : State}
    (h : replyRoom (takeDelivered (sameTelegram kind addrSupervisor p) s).ring = false) (rule : State → Verdict) :
    request kind p rule s = .next s := by
  simp [request, whenReady, takeRequest, h]

/-- A request whose effect is none leaves everything but the answer: the reply at the tail of its queue, the
request gone from the delivered telegrams, and the line (R172). -/
theorem answerRequest_id {kind : Octet} {v : Verdict} (h : v.effect = id) (s : State) :
    (answerRequest kind v s).ring.replies = s.ring.replies ++ [replyEntry kind v]
    ∧ unchangedBut [.replies, .line] s (answerRequest kind v s) := by
  have e : answerRequest kind v s
      = grant { holdReply (replyEntry kind v) s with
          ring := { (holdReply (replyEntry kind v) s).ring with replyHeld := false } } := by
    simp [answerRequest, h, releaseReply]
  rw [e]
  have g := grant_frame { holdReply (replyEntry kind v) s with
    ring := { (holdReply (replyEntry kind v) s).ring with replyHeld := false } }
  refine ⟨g .replies (by simp), unchangedBut_trans ?_ (unchangedBut_mono g (by simp))⟩
  intro p hp
  cases p <;> simp_all [same]

/-! ## The checks of a basin record write -/

/-- A basin record write is accepted in two cases: in use off, with no engaged unit of a basin that goes out of use,
or in use on, with every field in its range and the levels in order (R45). -/
theorem checkBasin_none_iff {s : State} {b : BasinId} {n : Nat} {r : BasinRec} :
    checkBasin s b n r = none ↔
      (n = 0 ∧ ¬ (s.store.basins[b].inUse = true
        ∧ allUnits.any (fun u => decide (s.store.units[u].basin = b) && busyState s.units[u].state) = true))
      ∨ (n = 1 ∧ basinInRange r = true ∧ basinInOrder r = true) := by
  unfold checkBasin
  match n with
  | 0 => simp
  | 1 => cases basinInRange r <;> cases basinInOrder r <;> simp
  | n + 2 => simp

/-- An in use field that holds neither yes nor no is refused with RANGE, whatever else the record holds (R44, R45). -/
theorem checkBasin_of_unnamed {n : Nat} (h : 1 < n) (s : State) (b : BasinId) (r : BasinRec) :
    checkBasin s b n r = some .range := by
  have h0 : n ≠ 0 := by omega
  have h1 : ¬ n ≤ 1 := by omega
  simp [checkBasin, h0, h1]

/-! ## Enrolment -/

/-- The withdrawal of the offers changes the order queue alone, and nothing on the line (R65). -/
theorem withdrawOffers_frame (s : State) : unchangedBut [.orders, .line] s (withdrawOffers s) := by
  intro p hp
  cases p <;> simp_all [same, withdrawOffers]

/-- What the withdrawal leaves: every entry but an offer that waits (R65). -/
theorem mem_withdrawOffers {e : OrderEntry} {s : State} :
    e ∈ (withdrawOffers s).ring.orders ↔ e ∈ s.ring.orders ∧ (isOffer e = false ∨ e.sending = true) := by
  simp [withdrawOffers, List.mem_filter, Bool.or_eq_true]

end Sys2Proof.Machine
end

