-- ==== Sys2Proof/Tests/Slice0.lean ====
section
/-! SUPPORT. The model's own tests: the checks of WellFormed, the worked examples of the manual, small tests of
single commands, and for every statement with hypotheses a witness that meets them. Expected values come from the
manual's worked examples and tables, named at each test, or by hand from its rules. -/

namespace Sys2Proof.Tests

open Sys2Proof Sys2Proof.Machine

-- One theorem at a time: in the package as one text, the tests waiting side by side exhaust the threads.
set_option Elab.async false

/-! ## A plant to test on: the station of 5.8 at its event a -/

def noPoint : CurvePoint := ⟨0, 0, 0⟩

/-- Type 1 of 2.7. -/
def type1 : TypeRec where
  inUse := true
  stageCount := 2
  highCount := 5
  lowCount := 4
  startPower := 600
  minRun := 600
  minRest := 300
  startConfirm := 30
  stopConfirm := 45
  high := #v[⟨0, 5200, 410⟩, ⟨2000, 4800, 430⟩, ⟨4000, 3900, 450⟩, ⟨6000, 2500, 440⟩, ⟨7000, 0, 380⟩,
    noPoint, noPoint, noPoint]
  low := #v[⟨0, 3600, 250⟩, ⟨2000, 3100, 265⟩, ⟨3500, 2200, 270⟩, ⟨4500, 0, 240⟩, noPoint, noPoint, noPoint,
    noPoint]

/-- Type 2 of 2.7. -/
def type2 : TypeRec where
  inUse := true
  stageCount := 1
  highCount := 4
  lowCount := 0
  startPower := 320
  minRun := 600
  minRest := 300
  startConfirm := 30
  stopConfirm := 45
  high := #v[⟨1000, 2400, 210⟩, ⟨3000, 2100, 225⟩, ⟨5000, 1500, 235⟩, ⟨6500, 0, 200⟩, noPoint, noPoint, noPoint,
    noPoint]
  low := Vector.replicate 8 noPoint

/-- Basin 1 of 3.7. -/
def basin1 : BasinRec where
  inUse := true
  band := 50
  holdTime := 120
  hysteresis := 80
  stopLevel := -2400
  wakeLevel := -2250
  criticalLevel := -1000
  overrideAllowed := 1
  emergency := 8000
  priority := 1
  outletLoss := 100
  blindStep := 2
  stepCount := 4
  steps := #v[⟨-2200, 500⟩, ⟨-1900, 3000⟩, ⟨-1600, 6500⟩, ⟨-1300, 10000⟩, ⟨0, 0⟩, ⟨0, 0⟩]

def gauge (node point : Nat) : GaugeRec := ⟨true, node, point, 0, 0, -4000, 4000, 60⟩

def drive (type : TypeId) (count : Nat) (id : Identity) : UnitRec := ⟨true, some id, type, 0, true, count⟩

/-- The table store of 5.8. -/
def plantStore : Store where
  station := { StationRec.firstPower with ceiling := 2000, fallbackBudget := 1500, defaultPermit := 12000 }
  gauges := ((((GaugeRec.firstPower |> Vector.replicate 16).set 1 (gauge 1 1)).set 2 (gauge 2 1)).set 3
    (gauge 3 1) |>.set 8 (gauge 8 5)).set 9 (gauge 9 5)
  river := ⟨50, 120, 1500⟩
  basins := (Vector.replicate 4 BasinRec.firstPower).set 0 basin1
  types := ((Vector.replicate 4 TypeRec.firstPower).set 0 type1).set 1 type2
  units := (((Vector.replicate 12 UnitRec.firstPower).set 0 (drive 0 14 100#32)).set 1 (drive 0 9 101#32)).set 2
    (drive 1 20 102#32)

def sampled (l : Int) : GaugeRt :=
  { GaugeRt.initial with
    status := .fresh, reading := some l, level := some l, health := .healthy, age := some 0, staleTimer := some 60 }

def voted (st : PointState) (l : Int) : PointRt := ⟨⟨st, some l, false⟩, none, ⟨st, some l, false⟩⟩

def atRest : UnitRt := { UnitRt.fresh .ready with lastReport := some ⟨.remote, .stopped, 0, .none⟩ }

/-- The station of 5.8 with basin 1 voted at a level, the river at +1500, its units READY, AUTO, one evaluation due. -/
def plantAt (l : Int) (step : Nat) : State :=
  reformAll
    { State.reset with
      store := plantStore
      gauges := ((((Vector.replicate 16 GaugeRt.initial).set 1 (sampled l)).set 2 (sampled l)).set 3 (sampled l)
        |>.set 8 (sampled 1500)).set 9 (sampled 1500)
      points := ((Vector.replicate 5 PointRt.unseen).set 0 (voted .full l)).set 4 (voted .reduced 1500)
      riverUse := ⟨1500, .voted⟩
      basins := (Vector.replicate 4 BasinRt.notInUse).set 0 (basinValues basin1 ⟨.full, some l, false⟩ step false)
      units := (((Vector.replicate 12 (UnitRt.fresh .vacant)).set 0 atRest).set 1 atRest).set 2 atRest
      limits := ⟨1500, .current, some 30, 1500, 12000, .permitNode, false, 12000⟩
      station := { State.reset.station with mode := .auto, conditions := Vector.replicate 13 false }
      ring := { State.reset.ring with replies := [] }
      board := { State.reset.board with relayClosed := false } }

def plant : State := plantAt (-1700) 2

/-- The next state of a command that has one. -/
def after (c : Instr) (s : State) : State :=
  match exec c s with
  | .next t => t
  | _ => s

def inMode (m : Mode) (s : State) : State := { s with station := { s.station with mode := m } }

/-- The plant with unit `u` at a state and stage; where the state stands on the stack it is on it. -/
def having (u : UnitId) (st : UnitState) (x : Option Stage) (s : State) : State :=
  { setUnit u (fun r => { r with state := st, stage := x }) s with
    engine := engineMoved u st s.engine
    station := { s.station with idle := !committed { UnitRt.fresh st with stage := x } } }

/-- The plant with unit 2 the candidate at HIGH, CONFIRMING or in WARNING (5.8, events a and b). -/
def candidateIn (st : UnitState) (s : State) : State :=
  { setUnit 1 (fun r => { r with state := st, stage := some .high }) s with
    engine := { s.engine with allowance := .held 1 .start, candidate := some ⟨1, .high, []⟩ }
    station := { s.station with idle := false }
    horn := { s.horn with
      line := decide (st = .warning), warningTimer := if st = .warning then some 30 else none, rearmTimer := none } }

/-- The plant with unit 2 STARTING at HIGH (5.8, event c). -/
def starting : State :=
  { setUnit 1 (fun r => { r with state := .starting, stage := some .high, confirmTimer := some 30 }) plant with
    engine := { plant.engine with stack := [1], allowance := .held 1 .start }
    station := { plant.station with idle := false }
    horn := ⟨false, false, none, none⟩ }

/-- The plant with unit 2 RUNNING at a stage (5.8, event d). -/
def running (x : Stage) (s : State) : State :=
  { setUnit 1 (fun r => { r with state := .running, stage := some x, minRun := .running 600 }) s with
    engine := { s.engine with stack := [1] }
    station := { s.station with idle := false }
    horn := ⟨false, false, none, none⟩ }

/-- A telegram in the receive queue alone. -/
def received (e : RxEntry) (s : State) : State := { s with ring := { s.ring with rx := [e] } }

/-- The unflagged entry of a telegram. -/
def clean (x : Telegram) : RxEntry :=
  ⟨[x.dest, x.src, x.kind, BitVec.ofNat 8 x.payload.length], x.payload, ⟨false, false, false, false⟩⟩

def sending (q : QueueName) (x : Telegram) (s : State) : State :=
  { s with ring := { s.ring with line := .sending q x } }

/-! ## The checks of WellFormed refuse ill-formed commands -/

theorem test_wf_refuses_unit_numbers :
    Instr.wf (.unitPollTimeout 0) = false ∧ Instr.wf (.unitPollTimeout 13) = false
    ∧ Instr.wf (.orderReplyTimeout 13) = false ∧ Instr.wf (.startConfirmExpiry 0) = false
    ∧ Instr.wf (.restageConfirmExpiry 13) = false ∧ Instr.wf (.stopConfirmExpiry 0) = false
    ∧ Instr.wf (.restTimerExpiry 13) = false ∧ Instr.wf (.minimumRunExpiry 0) = false
    ∧ Instr.wf (.unitPollTimeout 1) = true ∧ Instr.wf (.unitPollTimeout 12) = true := by decide

theorem test_wf_refuses_gauge_and_point_numbers :
    Instr.wf (.staleTimerExpiry 16) = false ∧ Instr.wf (.backgroundPollTimeout 16) = false
    ∧ Instr.wf (.demandPollTimeout 16) = false ∧ Instr.wf (.lostTimerExpiry 0) = false
    ∧ Instr.wf (.lostTimerExpiry 6) = false
    ∧ Instr.wf (.staleTimerExpiry 15) = true ∧ Instr.wf (.lostTimerExpiry 5) = true := by decide

/-- A frame carries at most 48 octets of payload (R158). -/
theorem test_wf_refuses_long_payloads :
    Instr.wf (.levelReport 1 (List.replicate 49 0)) = false ∧ Instr.wf (.unitReport 33 (List.replicate 49 0)) = false
    ∧ Instr.wf (.enrolTake 33 (List.replicate 49 0)) = false ∧ Instr.wf (.supplyLimit (List.replicate 49 0)) = false
    ∧ Instr.wf (.permitSet (List.replicate 49 0)) = false ∧ Instr.wf (.permitHold (List.replicate 49 0)) = false
    ∧ Instr.wf (.permitRelease (List.replicate 49 0)) = false ∧ Instr.wf (.tableRead (List.replicate 49 0)) = false
    ∧ Instr.wf (.modeSet (List.replicate 49 0)) = false ∧ Instr.wf (.tripClear (List.replicate 49 0)) = false
    ∧ Instr.wf (.stationQuery (List.replicate 49 0)) = false ∧ Instr.wf (.pointQuery (List.replicate 49 0)) = false
    ∧ Instr.wf (.unitQuery (List.replicate 49 0)) = false ∧ Instr.wf (.conditionClear (List.replicate 49 0)) = false
    ∧ Instr.wf (.restart (List.replicate 49 0)) = false ∧ Instr.wf (.levelReport 1 (List.replicate 48 0)) = true := by
  decide

/-- A request stands at the row that takes its payload, and at no other row of its kind. -/
theorem test_wf_refuses_payloads_of_other_rows :
    Instr.wf (.tableWriteStation [2, 0, 1]) = false ∧ Instr.wf (.tableWriteGauge [1, 0, 1]) = false
    ∧ Instr.wf (.tableWriteRiver [1, 0, 1]) = false ∧ Instr.wf (.tableWriteBasin [4, 1, 1]) = false
    ∧ Instr.wf (.tableWriteType [5, 1, 2]) = false ∧ Instr.wf (.tableWriteUnit [1, 0, 1]) = false
    ∧ Instr.wf (.tableWritePart [4, 1, 2]) = false ∧ Instr.wf (.manualOrderStart [1, 3, 0]) = false
    ∧ Instr.wf (.manualOrderRestageHigh [1, 2, 1]) = false ∧ Instr.wf (.manualOrderRestageLow [1, 2, 2]) = false
    ∧ Instr.wf (.manualOrderStop [1, 4, 0]) = false ∧ Instr.wf (.manualOrderHalt [1, 3, 0]) = false
    ∧ Instr.wf (.unitServiceOut [1, 1]) = false ∧ Instr.wf (.unitServiceIn [1, 0]) = false
    ∧ Instr.wf (.counterRead [1]) = false ∧ Instr.wf (.counterReadClear [0]) = false
    ∧ Instr.wf (.enrolStart [1]) = false ∧ Instr.wf (.enrolRelease [0]) = false := by decide

/-- No row has bits, so no word spells a command, and a queue stays as it is (log entry 30). -/
theorem test_no_word_spells_a_command (nbits w : Nat) (s : State) :
    decodeTableWord nbits w = none ∧ s.withFetchWord nbits w = s := ⟨rfl, rfl⟩

/-! ## Worked examples of the manual -/

/-- The check of the nine octets 31h to 39h is 29B1h (R158). -/
theorem test_check_of_digits :
    check [0x31#8, 0x32#8, 0x33#8, 0x34#8, 0x35#8, 0x36#8, 0x37#8, 0x38#8, 0x39#8] = 0x29B1#16 := by decide +kernel

/-- R6: the digits 2, 1, 7, 1, 0 and sign 1 read as −1712 mm. -/
theorem test_decimal_reading : decimalReport [1#8, 0x12#8, 0x17#8, 0x10#8] = some (.healthy, -1712) := by decide

/-- 2.7, a storm-surge head, the quotient at 2333, and the clamp. -/
theorem test_curves_of_the_worked_cases :
    headOf 2850 (-1700) 100 = 4650
    ∧ readCurve 4650 type1.highCurve = ⟨3445, 447, .onCurve⟩ ∧ readCurve 4650 type1.lowCurve = ⟨0, 240, .beyondCurve⟩
    ∧ readCurve 4650 type2.highCurve = ⟨1605, 234, .onCurve⟩ ∧ stageEstimate type2 .low 4650 = ⟨0, 320, .noCurve⟩
    ∧ readCurve 2333 type1.highCurve = ⟨4650, 434, .onCurve⟩
    ∧ headOf (-2500) (-1700) 100 = 0 ∧ readCurve 0 type1.highCurve = ⟨5200, 410, .onCurve⟩
    ∧ readCurve 600 type2.highCurve = ⟨2400, 210, .clamped⟩
    ∧ readCurve 5350 type1.highCurve = ⟨2955, 444, .onCurve⟩ ∧ readCurve 5350 type2.highCurve = ⟨1150, 227, .onCurve⟩ := by
  decide

/-- 3.7: the steps of a storm, one publication after another. -/
theorem test_basin_through_a_storm :
    let go := fun (b : BasinRt) (l : Int) => basinPublished basin1 ⟨.full, some l, false⟩ b
    let rows := fun (l : List Int) => l.foldl go (basinValues basin1 ⟨.full, some (-2300), false⟩ 0 false)
    (rows [-2410]).dry = true ∧ (rows [-2410, -2300, -2240]).atWake = true
    ∧ (rows [-2190, -1698]).step = 2 ∧ (rows [-1698, -1590, -1660]).step = 3 ∧ (rows [-1590, -1660, -1690]).step = 2
    ∧ (rows [-1690, -1280]).target = 10000
    ∧ (rows [-1280, -990]).override = true ∧ (rows [-1280, -990]).atCritical = true
    ∧ (rows [-990, -1050]).override = true ∧ (rows [-990, -1050]).atCritical = false
    ∧ (rows [-990, -1050, -1090]).override = false ∧ (rows [-1280, -2250]).step = 1 ∧ (rows [-1280, -2300]).step = 0 := by
  decide +kernel

/-- 5.8, event a: unit 2, of the lowest start count, becomes the candidate at HIGH, P_c 600, and the five gauges are
on the confirmation list. -/
theorem test_evaluation_takes_a_candidate :
    (after .evaluation plant).units[1].state = .confirming
    ∧ (after .evaluation plant).engine.candidate = some ⟨1, .high, [1, 2, 3, 8, 9]⟩
    ∧ committedPower (after .evaluation plant) = 600 ∧ (after .evaluation plant).units[0].state = .ready := by
  decide +kernel

/-- 5.8, the estimates at −1700. -/
theorem test_estimates_of_the_plant :
    stageEst plant 0 .high = some ⟨4215, 443, .onCurve⟩ ∧ stageEst plant 0 .low = some ⟨2320, 270, .onCurve⟩
    ∧ stageEst plant 2 .high = some ⟨2010, 227, .onCurve⟩ := by decide +kernel

/-! ## Witnesses: a state that meets the hypotheses of each statement -/

/-- The plant obeys the laws of dispatch, and has room for an answer to any request. -/
theorem plant_dispatch : DispatchLaws plant := dispatchLaws_of_check (by decide +kernel)

theorem plant_takes (kind : Octet) (p : List Octet) : takes kind p plant := ⟨by decide +kernel, rfl⟩

theorem plant_estimates : EstimatesCurrent plant := by unfold EstimatesCurrent; decide +kernel

theorem starting_dispatch : DispatchLaws starting := dispatchLaws_of_check (by decide +kernel)

/-- The candidate's warning period runs (5.8, event b). -/
def warned : State := candidateIn .warning plant

theorem warned_dispatch : DispatchLaws warned := dispatchLaws_of_check (by decide +kernel)

/-- The whole round of a step: any state has a next one on an empty queue. -/
theorem witness_step : ∃ t, step plant = .next t := ⟨_, rfl⟩

theorem witness_EmptyQueueAgesSamples : plant.pending = [] ∧ plant.ready = true := by decide +kernel

/-- Without power, with the reset input asserted, and with the reset held. -/
theorem witness_NotReadyTakesNothing :
    (Instr.evaluation.wf = true ∧ ofBoard .evaluation = false)
    ∧ (withoutPower plant).ready = false
    ∧ { plant with board := { plant.board with resetInput := true } : State }.ready = false
    ∧ { plant with board := { plant.board with resetHold := true } : State }.ready = false := by decide +kernel

theorem witness_WellFormedCommandsComplete :
    Instr.wf (.minimumRunExpiry 12) = true
    ∧ (Instr.wf (.tableRead (List.replicate 49 0)) = false ∧ namesNothing (.tableRead (List.replicate 49 0)) = false)
    ∧ (isUnitNumber 0 = false ∧ isUnitNumber 13 = false) ∧ isGaugeNumber 16 = false
    ∧ isPointNumber 0 = false ∧ isPointNumber 6 = false := by decide

/-- The order queue at its sixteen places: the order of a unit no longer enrolled on the line, three enrolment
telegrams, and the twelve units' own. -/
def sixteen : List OrderEntry :=
  [⟨.unitOrder 11 .stop, true, true, 0⟩, ⟨.release, false, false, 0⟩, ⟨.offer 10, false, false, 0⟩,
    ⟨.offer 11, false, false, 0⟩] ++ allUnits.map fun u => ⟨.unitOrder u .stop, false, false, 0⟩

/-- Every queue at its last place, one place of the reply queue kept for a delivered request. -/
def crowded : State :=
  { plant with
    ring :=
      { plant.ring with
        rx := List.replicate 8 (clean ⟨63, 48, kindStationQuery, []⟩)
        forward := List.replicate 8 ⟨48, 33, kindUnitReport, []⟩
        polls := List.replicate 4 ⟨.gauge 1, 1, true⟩
        orders := sixteen
        line := .sending .order ⟨44, 63, kindUnitOrder, [3]⟩
        replies := List.replicate 3 ⟨attentionTelegram .pointLost plant.station.conditions, false⟩
        delivered := [⟨63, 48, kindStationQuery, []⟩] } }

theorem crowded_orders : OrdersLaw crowded ∧ crowded.ring.orders.length = 16 :=
  ⟨ordersLaw_of_check (by decide +kernel), by decide +kernel⟩

theorem witness_QueuesStayBounded : QueuesBounded crowded ∧ ∃ t, step crowded = .next t :=
  ⟨⟨by decide +kernel, by decide +kernel, by decide +kernel, by decide +kernel, crowded_orders.1,
    Nat.le_of_eq crowded_orders.2⟩, _, rfl⟩

theorem witness_DispatchLawsAreKept : DispatchLaws warned ∧ ∃ t, step warned = .next t := ⟨warned_dispatch, _, rfl⟩

/-- The law with the horn line active, and a step from it that ends the warning period. -/
theorem witness_HornLineFollowsTheWarningPeriod :
    DispatchLaws warned ∧ HornLaw warned ∧ warned.horn.line = true
    ∧ ∃ t, step { warned with pending := [.warningTimerExpiry] } = .next t :=
  ⟨warned_dispatch, ⟨by decide +kernel, fun _ => by decide +kernel, fun _ => ⟨_, rfl, by decide +kernel⟩⟩,
    by decide +kernel, _, rfl⟩

theorem witness_EstimatesStayCurrent : EstimatesCurrent plant ∧ ∃ t, step plant = .next t := ⟨plant_estimates, _, rfl⟩

theorem plant_targets : TargetLaw plant := targetLaw_of_check (by decide +kernel)

theorem witness_TargetFollowsTheStep :
    (TargetLaw plant ∧ ∃ t, step plant = .next t)
    ∧ basinRanges basin1 ∧ basinOrdered basin1 ∧ 0 ≤ 4 ∧ 4 ≤ basin1.stepCount :=
  ⟨⟨plant_targets, _, rfl⟩, by decide⟩

theorem witness_LimitsLawIsKept : LimitsLaw plant ∧ ∃ t, step plant = .next t :=
  ⟨by unfold LimitsLaw; decide +kernel, _, rfl⟩

theorem witness_ConditionsFollowTheirOwners :
    PointsLaw plant ∧ ConditionsLaw plant ∧ ∃ t, step plant = .next t :=
  ⟨by unfold PointsLaw; decide +kernel, by unfold ConditionsLaw; decide +kernel, _, rfl⟩

theorem plant_votes : VoteLaw plant := voteLaw_of_check (by decide +kernel)

theorem witness_ConditionsFollowTheirOwners_votes : VoteLaw plant ∧ ∃ t, step plant = .next t := ⟨plant_votes, _, rfl⟩

theorem witness_UnitTimersFollowTheState : TimersLaw starting ∧ ∃ t, step starting = .next t :=
  ⟨by unfold TimersLaw; decide +kernel, _, rfl⟩

/-- An evaluation that makes unit 2 the candidate, and the end of its warning period that starts it. -/
theorem witness_NothingStartsBeyondItsLimits :
    (DispatchLaws plant ∧ EstimatesCurrent plant ∧ exec .evaluation plant = .next (after .evaluation plant)
      ∧ (after .evaluation plant).units[1].state ≠ plant.units[1].state
      ∧ (after .evaluation plant).units[1].state = .confirming)
    ∧ (DispatchLaws warned ∧ EstimatesCurrent warned
      ∧ exec .warningTimerExpiry warned = .next (after .warningTimerExpiry warned)
      ∧ (after .warningTimerExpiry warned).units[1].state ≠ warned.units[1].state
      ∧ (after .warningTimerExpiry warned).units[1].state = .starting) :=
  ⟨⟨plant_dispatch, plant_estimates, rfl, by decide +kernel, by decide +kernel⟩,
    warned_dispatch, by unfold EstimatesCurrent; decide +kernel, rfl, by decide +kernel, by decide +kernel⟩

/-- The reply queue full. -/
def noRoom : State :=
  { plant with
    ring := { plant.ring with
      replies := List.replicate 4 ⟨attentionTelegram .pointLost plant.station.conditions, false⟩ } }

theorem witness_RequestsAreAnsweredOnce :
    requestOf (.stationQuery []) = some (kindStationQuery, []) ∧ plant.ready = true ∧ noRoom.ready = true
    ∧ replyRoom (takeDelivered (sameTelegram kindStationQuery addrSupervisor []) plant).ring = true
    ∧ replyRoom (takeDelivered (sameTelegram kindStationQuery addrSupervisor []) noRoom).ring = false := by
  decide +kernel

/-- A MODE SET refused with RANGE and a TABLE WRITE refused with UNKNOWN. -/
theorem witness_RefusalsChangeNothing :
    (requestOf (.modeSet [3]) = some (kindModeSet, [3]) ∧ takes kindModeSet [3] plant
      ∧ exec (.modeSet [3]) plant = .next (after (.modeSet [3]) plant)
      ∧ isRefused kindModeSet .range plant (after (.modeSet [3]) plant))
    ∧ (requestOf (.tableWriteStation [7, 0, 1]) = some (kindTableWrite, [7, 0, 1])
      ∧ takes kindTableWrite [7, 0, 1] plant
      ∧ exec (.tableWriteStation [7, 0, 1]) plant = .next (after (.tableWriteStation [7, 0, 1]) plant)
      ∧ isRefused kindTableWrite .unknown plant (after (.tableWriteStation [7, 0, 1]) plant)) :=
  ⟨⟨rfl, plant_takes _ _, rfl, false, [], by decide +kernel, rfl⟩,
    ⟨rfl, plant_takes _ _, rfl, false, [], by decide +kernel, rfl⟩⟩

/-- The numbers next to the ends of the tables, points, units and codes, and payloads of a wrong length. -/
theorem witness_RefusalsChangeNothing_forms :
    ([(.modeSet [3], .range), (.tableWriteStation [7, 0, 1], .unknown), (.tableWriteStation [1, 0, 1, 0], .range),
      (.tableWriteGauge (2 :: 0 :: 1 :: 2 :: List.replicate 11 0), .range), (.tableWritePart [5, 1, 4], .range),
      (.tableRead [2, 16, 1], .unknown), (.tableRead [5, 4, 4], .range), (.tableRead [], .range),
      (.pointQuery [6], .unknown), (.pointQuery [0], .unknown), (.unitQuery [13], .unknown), (.tripClear [0], .unknown),
      (.unitServiceOut [1, 2], .range), (.unitServiceOut [13, 0], .unknown), (.conditionClear [14], .range),
      (.counterRead [2], .range), (.enrolStart [2], .range), (.stationQuery [0], .range), (.restart [0], .range),
      (.manualOrderStart [13, 1, 0], .mode), (.manualOrderStart [1, 1], .range)] : List (Instr × Reason)).all (fun x =>
        match requestOf x.1 with
        | some (kind, p) => decide (refusalOf kind p plant = some x.2)
        | none => false) = true
    ∧ ∀ kind p, takes kind p plant :=
  ⟨by decide +kernel, plant_takes⟩

theorem witness_RefusalsChangeNothing_manual :
    refusalOf kindManualOrder [13, 1, 0] (inMode .manual plant) = some .unknown
    ∧ refusalOf kindManualOrder [12, 1, 0] (inMode .manual plant) = some .range
    ∧ refusalOf kindManualOrder [12, 5, 1] (inMode .manual plant) = some .range
    ∧ refusalOf kindManualOrder [12, 4, 9] (inMode .manual plant) = none
    ∧ takes kindManualOrder [13, 1, 0] (inMode .manual plant) := by
  refine ⟨by decide +kernel, by decide +kernel, by decide +kernel, by decide +kernel, by decide +kernel, rfl⟩

/-- An order of node 48 to unit 1's drive, to that of unit 12, which is not enrolled, and one of the controller's
own. -/
def foreign (dest src : Octet) : Telegram := ⟨dest, src, kindUnitOrder, [3]⟩

theorem witness_ForeignUnitOrdersNeverPass :
    (plant.ready = true ∧ (received (clean (foreign 33 48)) plant).ring.rx = [clean (foreign 33 48)]
      ∧ (clean (foreign 33 48)).telegram = some (foreign 33 48) ∧ (foreign 33 48).kind = kindUnitOrder
      ∧ (foreign 33 48).src ≠ addrController ∧ (foreign 33 48).dest = driveAddress 0
      ∧ plant.store.units[(0 : UnitId)].enrolled = true)
    ∧ ((clean (foreign 44 48)).telegram = some (foreign 44 48) ∧ (foreign 44 48).dest = driveAddress 11
      ∧ plant.store.units[(11 : UnitId)].enrolled = false ∧ plant.ring.forward.length < 8)
    ∧ (clean (foreign 33 63)).telegram = some (foreign 33 63) ∧ (foreign 33 63).src = addrController := by
  decide +kernel

theorem witness_ForeignUnitOrdersNeverPass_next : ∃ t, exec .classification plant = .next t := ⟨_, rfl⟩

theorem witness_TableRecordsReadBack :
    stationRanges StationRec.firstPower ∧ gaugeInRange (gauge 31 5) = true ∧ checkRiver ⟨2000, 3600, -30000⟩ = none
    ∧ (basinInRange basin1 = true ∧ ∀ i : Fin 6, basin1.stepCount ≤ i.val → basin1.steps[i] = ⟨0, 0⟩)
    ∧ (typeInRange type1 = true ∧ (∀ i : Fin 8, type1.highCount ≤ i.val → type1.high[i] = ⟨0, 0, 0⟩)
      ∧ ∀ i : Fin 8, type1.lowCount ≤ i.val → type1.low[i] = ⟨0, 0, 0⟩)
    ∧ (drive 0 65535 7).startCount ≤ 65535 ∧ (drive 0 65535 7).identity = some 7 := by
  unfold stationRanges
  decide

/-- Octets that a write carries: of records in use, and of a gauge, a basin and a type record not in use. -/
theorem witness_TableRecordsReadBack_octets :
    ((stationOctets StationRec.firstPower).length = 24
      ∧ stationOf (stationOctets StationRec.firstPower) = some StationRec.firstPower)
    ∧ ((gaugeOctets { gauge 9 5 with inUse := false }).length = 12
      ∧ numAt (gaugeOctets { gauge 9 5 with inUse := false }) 0 1 = 0)
    ∧ (riverOctets ⟨50, 120, 1500⟩).length = 6
    ∧ ((basinOctets { basin1 with inUse := false }).length = 52
      ∧ numAt (basinOctets { basin1 with inUse := false }) 0 1 = 0
      ∧ ∀ i : Fin 52, 22 + 5 * numAt (basinOctets basin1) 21 1 ≤ i.val → (basinOctets basin1)[i.val]? = some 0)
    ∧ ((typeOctets { type1 with inUse := false }).length = 110
      ∧ numAt (typeOctets { type1 with inUse := false }) 0 1 = 0
      ∧ (∀ i : Fin 62, 14 + 6 * numAt (typeOctets type1) 2 1 ≤ i.val → (typeOctets type1)[i.val]? = some 0)
      ∧ ∀ i : Fin 110, 62 + 6 * numAt (typeOctets type1) 3 1 ≤ i.val → (typeOctets type1)[i.val]? = some 0) := by
  decide +kernel

/-- 10.5: a step written in the first slot beyond a basin's four is not formed; the fourth is. -/
theorem test_slot_beyond_the_count :
    let r := basinOf ((basinOctets basin1).set 46 9)
    numAt ((basinOctets basin1).set 46 9) 44 3 = 9 ∧ r.steps[4] = ⟨0, 0⟩ ∧ r.steps[3] = basin1.steps[3] := by decide +kernel

theorem witness_FramedTelegramsAreReceivedWhole :
    (⟨48, 33, 0x22, List.replicate 48 0⟩ : Telegram).payload.length ≤ 48 ∧ plant.ready = true
    ∧ plant.board.relayClosed = false ∧ plant.ring.collecting = none ∧ plant.ring.rx.length < 8 := by decide +kernel

/-- A SUPPLY LIMIT of 1000 kW, on the line with the parity of its last check octet wrong; and octets that begin no
collection. -/
theorem witness_FramedTelegramsAreReceivedWhole_parity :
    let x : Telegram := ⟨63, 50, kindSupplyLimit, [0, 0, 3, 0xE8]⟩
    let rest := ((frame x).tail.dropLast.map sent) ++ (frame x).tail.getLast?.toList.map fun o => ⟨o, !parityOf o⟩
    ((sent startOctet :: rest).map RxOctet.value = frame x ∧ parityOk (sent startOctet) = true
      ∧ (rest.any fun o => !parityOk o) = true)
    ∧ ∀ o ∈ ([⟨startOctet, !parityOf startOctet⟩, sent 0] : List RxOctet), o.value ≠ 0xD5 ∨ parityOk o = false := by
  decide +kernel

/-- The same telegram with a wrong check, and with the check of its frame, at a receive queue of 7 and of 8. -/
theorem witness_FramedTelegramsAreReceivedWhole_check :
    let x : Telegram := ⟨63, 50, kindSupplyLimit, [0, 0, 3, 0xE8]⟩
    let full (n : Nat) : State := { plant with ring := { plant.ring with rx := List.replicate n (clean x) } }
    (([0, 0] : List Octet).length = 2 ∧ [0, 0] ≠ (frame x).drop 9 ∧ ((frame x).drop 9).length = 2
      ∧ (((frame x).take 9 ++ [0, 0]).map sent).map RxOctet.value = (frame x).take (x.payload.length + 5) ++ [0, 0]
      ∧ (((frame x).take 9 ++ [0, 0]).map sent).head? = some (sent startOctet))
    ∧ ((full 7).ready = true ∧ (full 7).ring.collecting = none ∧ (full 7).ring.rx.length < 8)
    ∧ (full 8).ready = true ∧ (full 8).board.relayClosed = false ∧ ¬ (full 8).ring.rx.length < 8 := by decide +kernel

/-- A collection of a telegram whose length octet is 49, with the receive queue short of its last place or full. -/
def collecting (n : Nat) : State :=
  { plant with
    ring := { plant.ring with
      collecting := some ⟨[63, 1, 0x11, 49], false, 50⟩
      rx := List.replicate n (clean ⟨63, 1, 0x11, [1, 0, 0]⟩) } }

theorem witness_SilenceEndsTheCollection :
    ((collecting 7).ready = true ∧ (collecting 7).board.relayClosed = false
      ∧ (collecting 7).ring.collecting = some ⟨[63, 1, 0x11, 49], false, 50⟩ ∧ (collecting 7).ring.rx.length < 8)
    ∧ (collecting 8).ring.collecting = some ⟨[63, 1, 0x11, 49], false, 50⟩ ∧ 8 ≤ (collecting 8).ring.rx.length
    ∧ lengthFault [63, 1, 0x11, 49] = true ∧ 50 ≤ 257 := by
  decide +kernel

/-- A flagged entry; a request that waits for room; and telegrams at each row. -/
theorem witness_ClassificationDisposesByRow :
    (plant.ready = true ∧ (⟨[63, 1, 0x11, 49], [], ⟨false, true, false, false⟩⟩ : RxEntry).telegram = none)
    ∧ ((clean ⟨63, 48, kindStationQuery, []⟩).telegram = some ⟨63, 48, kindStationQuery, []⟩
      ∧ mustWait noRoom ⟨63, 48, kindStationQuery, []⟩ = true)
    ∧ ([⟨32, 63, kindEnrolOffer, [1]⟩, ⟨0, 1, 0x11, []⟩, ⟨63, 48, kindStationQuery, []⟩, ⟨63, 51, kindStationQuery, []⟩,
        ⟨127, 50, kindSupplyLimit, []⟩, ⟨5, 48, 0x10, []⟩] : List Telegram).all (fun x =>
          decide ((clean x).telegram = some x) && !mustWait plant x && !foreignOrder plant x) = true := by
  decide +kernel

/-- The line in its gap, with the relay closed, and with it open; unit 2's HALT, which replaced an older order, stands
before unit 1's, deposited before it. -/
def inGap (closed : Bool) : State :=
  { plant with
    ring := { plant.ring with line := .gap, orders := [⟨.unitOrder 1 .halt, false, false, 2⟩, ⟨.unitOrder 0 .halt, false, false, 1⟩] }
    board := { plant.board with relayClosed := closed } }

theorem witness_ArbiterGrantsAnIdleLine :
    ((inGap true).ready = true ∧ (inGap true).ring.line = .gap ∧ (inGap true).board.relayClosed = true)
    ∧ (inGap false).ring.line = .gap ∧ (inGap false).board.relayClosed = false
    ∧ (inGap false).board.restart ≠ .replied := by decide +kernel

/-- A STOP of unit 2 waits before a HALT of unit 1. -/
def stopBeforeHalt : State :=
  { inGap false with ring := { (inGap false).ring with
      orders := [⟨.unitOrder 1 .stop, false, false, 0⟩, ⟨.unitOrder 0 .halt, false, false, 1⟩] } }

/-- A deposit in a full order queue, and in one with places left. -/
theorem witness_ArbiterGrantsAnIdleLine_places :
    ((∀ u : UnitId, crowded.ring.orders.countP (holdsSlot u) ≤ 1) ∧ crowded.ring.orders.countP OrderEntry.sending ≤ 1
      ∧ ∀ e ∈ crowded.ring.orders, e.dropped = true → e.sending = true)
    ∧ crowded.ring.orders.length = 16 ∧ OrdersLaw plant ∧ plant.ring.orders.length < 16 :=
  ⟨⟨crowded_orders.1.1, crowded_orders.1.2.2.2.1, crowded_orders.1.2.2.2.2.1⟩, crowded_orders.2,
    ordersLaw_of_check (by decide +kernel), by decide +kernel⟩

theorem witness_ArbiterGrantsAnIdleLine_turns :
    OrdersLaw stopBeforeHalt ∧ stopBeforeHalt.units[(1 : UnitId)].inFlight = none
    ∧ ∀ e ∈ stopBeforeHalt.ring.orders, holdsSlot 1 e = true → e.sending = false ∧ isHalt e = false :=
  ⟨ordersLaw_of_check (by decide +kernel), by decide +kernel⟩

/-- An idle line with a foreign STOP to gauge 5's node, forwarded, at the head of the receive queue. -/
def idleLine : State :=
  { plant with
    ring := { plant.ring with line := .idle, rx := [clean ⟨5, 48, 0x21, [3]⟩], polls := [], orders := [], replies := [] } }

theorem witness_ArbiterGrantsAnIdleLine_deposits :
    (idleLine.ready = true ∧ lineOpen idleLine)
    ∧ ((clean ⟨5, 48, 0x21, [3]⟩).telegram = some ⟨5, 48, 0x21, [3]⟩ ∧ mustWait idleLine ⟨5, 48, 0x21, [3]⟩ = false
      ∧ foreignOrder idleLine ⟨5, 48, 0x21, [3]⟩ = false)
    ∧ (idleLine.units[(1 : UnitId)].inFlight = none ∧ ∀ e ∈ idleLine.ring.orders, holdsSlot 1 e = false)
    ∧ (idleLine.pollTimers.gauge.isSome = true ∧ idleLine.ring.polls.length < 4
      ∧ (nextDue idleLine.store { idleLine.ring with
          backgroundDue := idleLine.ring.backgroundDue ++ allGauges.filter fun g => idleLine.store.gauges[g].inUse
            && idleLine.gauges[g].poll.isNone && !idleLine.ring.demandDue.contains g
            && !idleLine.ring.backgroundDue.contains g }).isSome = true)
    ∧ takes kindStationQuery [] idleLine := by
  refine ⟨by decide +kernel, by decide +kernel, by decide +kernel, by decide +kernel, by decide +kernel, by decide +kernel⟩

/-- A poll of gauge 1, and of unit 1, on the line. -/
def pollOnLine (e : PollEntry) : State :=
  sending .poll (pollTelegram e) { plant with ring := { plant.ring with polls := [e] } }

theorem witness_PollTransmissionEnds :
    ((pollOnLine ⟨.gauge 1, 1, true⟩).ready = true
      ∧ (pollOnLine ⟨.gauge 1, 1, true⟩).ring.line = .sending .poll ⟨1, 63, kindLevelPoll, []⟩
      ∧ (pollOnLine ⟨.gauge 1, 1, true⟩).ring.polls = [⟨.gauge 1, 1, true⟩])
    ∧ (pollOnLine ⟨.unit 0, 33, true⟩).ring.line = .sending .poll ⟨33, 63, kindUnitPoll, []⟩
    ∧ (pollOnLine ⟨.unit 0, 33, true⟩).ring.polls = [⟨.unit 0, 33, true⟩] := by decide +kernel

/-- An order queue entry on the line. -/
def orderOnLine (i : OrderItem) : State :=
  sending .order (orderTelegram i) { plant with ring := { plant.ring with orders := [⟨i, true, false, 0⟩] } }

theorem witness_OtherTransmissionsEnd :
    ([.unitOrder 0 .stop, .offer 11, .release] : List OrderItem).all (fun i =>
      (orderOnLine i).ready && decide ((orderOnLine i).ring.line = .sending .order (orderTelegram i))
      && decide ((orderOnLine i).ring.orders.find? (fun a => a.sending) = some ⟨i, true, false, 0⟩)) = true
    ∧ (sending .forward ⟨48, 33, 0x22, []⟩ plant).ring.line = .sending .forward ⟨48, 33, 0x22, []⟩
    ∧ (sending .reply ⟨48, 63, kindAccepted, [0x4C]⟩ noRoom).ring.line = .sending .reply ⟨48, 63, kindAccepted, [0x4C]⟩
    ∧ noRoom.ring.replies ≠ [] ∧ noRoom.ready = true := by decide +kernel

theorem witness_VotesFollowTheTable : pointInUse plant 0 = true ∧ pointInUse plant 4 = true := by decide +kernel

/-- The first segment of type 1's HIGH curve, at its lower point and just below its upper one. -/
theorem witness_InterpolationRounds :
    let l : List CurvePoint := [] ++ ⟨0, 5200, 410⟩ :: ⟨2000, 4800, 430⟩ :: [⟨4000, 3900, 450⟩]
    ascending (l.map fun c => (c.h : Int)) = true ∧ pointsInRange l = true
    ∧ (0 ≤ 0 ∧ 0 < 2000) ∧ 0 ≤ 1999 ∧ 1999 < 2000 := by decide

/-- A head below a curve's first point, at it, at its last and above it; a unit that is enrolled and one that is not. -/
theorem witness_InterpolationRounds_ends :
    let a : CurvePoint := ⟨1000, 2400, 210⟩
    let z : CurvePoint := ⟨6500, 0, 200⟩
    (999 < a.h ∧ 1000 = a.h) ∧ ascending (([a] ++ [z]).map fun c => (c.h : Int)) = true ∧ 6500 = z.h ∧ z.h < 6501
    ∧ plant.store.units[(0 : UnitId)].enrolled = true ∧ plant.store.units[(11 : UnitId)].enrolled = false := by
  decide +kernel

theorem witness_HeadIsClamped :
    ((-30000 : Int) ≤ -30000 ∧ (-30000 : Int) ≤ 30000 ∧ (30000 : Int) ≤ 30000 ∧ 2000 ≤ 2000)
    ∧ plant.store.units[(0 : UnitId)].enrolled = true ∧ (typeRecOf plant 0).inUse = true
    ∧ plant.store.basins[basinOfUnit plant 0].inUse = true := by decide +kernel

theorem witness_LevelReportsAreRead :
    ([1, 0] : List Octet).length ≠ 3 ∧ ([1, 0, 0] : List Octet).length ≠ 4 := by decide

theorem witness_LevelReportIsSampled :
    plant.ready = true ∧ gaugeAtNode plant 1 = some 1 ∧ gaugeAtNode plant 9 = some 9 := by decide +kernel

/-- Gauge 1 marked FAULTY. -/
def faulty : State := { plant with gauges := upd plant.gauges 1 fun g => { g with faulty := some .silent } }

theorem witness_FaultyMarksAreSetAndCleared :
    usableAt plant 0 = [(1, -1700), (2, -1700), (3, -1700)]
    ∧ faulty.ready = true ∧ gaugeAtNode faulty 1 = some 1 ∧ gaugePoint faulty.store.gauges[(1 : GaugeId)] = some 0
    ∧ faulty.gauges[(1 : GaugeId)].faulty = some .silent ∧ faulty.gauges[(1 : GaugeId)].disagree = 0
    ∧ faulty.points[(0 : PointId)].cur.level = some (-1700) := by decide +kernel

/-- A report of gauge 1, of a point in use; and of it FAULTY at a point with no voted level. -/
theorem witness_FaultyMarksAreSetAndCleared_reports :
    (plant.ready = true ∧ gaugeAtNode plant 1 = some 1 ∧ gaugePoint plant.store.gauges[(1 : GaugeId)] = some 0
      ∧ pointInUse plant 0 = true ∧ (usableAt (takeSample 1 [1, 0xF9, 0xCA] plant) 0).length = 3
      ∧ plant.points[(0 : PointId)].published = plant.points[(0 : PointId)].cur)
    ∧ { faulty with points := upd faulty.points 0 fun _ => .unseen : State }.points[(0 : PointId)].cur.level = none := by
  decide +kernel

/-- The river point LOST, its lost timer running. -/
def riverLost : State :=
  { plant with points := upd plant.points 4 fun _ => ⟨⟨.lost, some 1500, false⟩, some 120, ⟨.lost, some 1500, false⟩⟩ }

theorem witness_StaleAndLostTimersRunOut :
    plant.ready = true ∧ plant.gauges[(1 : GaugeId)].staleTimer.isSome = true
    ∧ riverLost.ready = true ∧ riverLost.points[(4 : PointId)].lostTimer.isSome = true := by decide +kernel

theorem witness_PollRoundsArePlaced :
    plant.ready = true ∧ plant.pollTimers.gauge.isSome = true ∧ plant.pollTimers.unit.isSome = true := by
  decide +kernel

/-- The states above obey the law of the basins, before a report, a stale timer's and a lost timer's expiry. -/
theorem witness_LevelReportIsSampled_basins : TargetLaw plant ∧ TargetLaw riverLost :=
  ⟨plant_targets, targetLaw_of_check (by decide +kernel)⟩

/-- Gauge 9 with a transmitted poll. -/
def polled (k : PollKind) : State :=
  { plant with gauges := upd plant.gauges 9 fun g => { g with poll := some k, replyTimer := some 100 } }

theorem witness_GaugePollsTimeOut :
    ((polled .background).ready = true ∧ (polled .background).gauges[(9 : GaugeId)].poll = some .background
      ∧ (polled .background).gauges[(9 : GaugeId)].replyTimer.isSome = true)
    ∧ (polled .demand).gauges[(9 : GaugeId)].poll = some .demand
    ∧ (polled .demand).gauges[(9 : GaugeId)].replyTimer.isSome = true := by decide +kernel

theorem witness_GaugePollsTimeOut_basins : TargetLaw (polled .demand) := targetLaw_of_check (by decide +kernel)

theorem starting_reports : starting.ready = true ∧ enrolledAt starting 34 = some 1
    ∧ (typeRecOf starting 1).inUse = true := by decide +kernel

theorem starting_orders : OrdersLaw starting := ordersLaw_of_check (by decide +kernel)

/-- A report whose outcome is not DECLINED declines nothing. -/
theorem not_declinesNow {u : UnitId} {r : Report} {s : State} (h : r.outcome ≠ .declined) : ¬ declinesNow u r s :=
  fun k => h k.1

/-- Unit 2 in a state that an order has produced, the order in flight. -/
def inFlightOf (st : UnitState) (x : Option Stage) (o : Order) : State :=
  let s := having 1 st x plant
  { setUnit 1 (fun r => { r with inFlight := some ⟨o, 100⟩, confirmTimer := some 30 }) s with
    engine := { s.engine with
      allowance := match st with
        | .starting => .held 1 .start
        | .raising => .held 1 .raise
        | _ => .free } }

/-- RUNNING, with a STOP pending behind a START that is answered too late. -/
def lateDecline : State := setUnit 1 (fun r => { r with confirmTimer := none, pendingOrder := some .stop })
  (inFlightOf .running (some .high) (.start .high))

theorem lateDecline_laws : DispatchLaws lateDecline ∧ OrdersLaw lateDecline :=
  ⟨dispatchLaws_of_check (by decide +kernel), ordersLaw_of_check (by decide +kernel)⟩

/-- A start confirmed, and a DECLINED that comes when the unit is RUNNING already. -/
theorem witness_ReportsConfirmOrders :
    (starting.ready = true ∧ DispatchLaws starting ∧ OrdersLaw starting ∧ enrolledAt starting 34 = some 1
      ∧ unitReportOf [0, 3, 0, 0] = some ⟨.remote, .runHigh, 0, .none⟩
      ∧ ¬ declinesNow 1 ⟨.remote, .runHigh, 0, .none⟩ starting
      ∧ (typeRecOf starting 1).inUse = true ∧ onStack starting.units[(1 : UnitId)].state = true)
    ∧ (lateDecline.ready = true ∧ DispatchLaws lateDecline ∧ OrdersLaw lateDecline
      ∧ enrolledAt lateDecline 34 = some 1
      ∧ unitReportOf [0, 3, 0, 2] = some ⟨.remote, .runHigh, 0, .declined⟩
      ∧ ¬ declinesNow 1 ⟨.remote, .runHigh, 0, .declined⟩ lateDecline
      ∧ (typeRecOf lateDecline 1).inUse = true ∧ onStack lateDecline.units[(1 : UnitId)].state = true) :=
  ⟨⟨starting_reports.1, starting_dispatch, starting_orders, starting_reports.2.1, by decide,
      not_declinesNow (by decide), starting_reports.2.2, by decide +kernel⟩,
    by decide +kernel, lateDecline_laws.1, lateDecline_laws.2, by decide +kernel, by decide,
    fun h => by
      obtain ⟨-, fl, hf, ha⟩ := h
      have e : lateDecline.units[(1 : UnitId)].inFlight = some ⟨.start .high, 100⟩ := by decide +kernel
      have st : lateDecline.units[(1 : UnitId)].state = .running := by decide +kernel
      rw [e] at hf
      cases hf
      rw [st] at ha
      exact absurd ha (by decide),
    by decide +kernel, by decide +kernel⟩

theorem plant_orders : OrdersLaw plant := ordersLaw_of_check (by decide +kernel)

/-- Unit 1 in a state off the stack, as Station Control has been told. -/
def standing (st : UnitState) : State :=
  let s := setUnit 0 (fun r => { r with
    state := st, trip := if st = .tripped then some (.driveTrip 7) else none }) plant
  setPending .unitTripped (decide (st = .tripped)) (setPending .unitSilent (decide (st = .missing)) s)

theorem standing_orders : ∀ st : UnitState, OrdersLaw (standing st) :=
  fun st => ordersLaw_of_check (by cases st <;> decide +kernel)

/-- The highest trip code, control at the panel, the states that such reports leave, and reports of nobody's drive
and of a wrong length. -/
theorem witness_TripAndLocalReportsLeaveService :
    (plant.ready = true ∧ OrdersLaw plant ∧ enrolledAt plant 33 = some 0
      ∧ unitReportOf [0, 0, 15, 0] = some ⟨.remote, .stopped, 15, .none⟩
      ∧ unitReportOf [1, 2, 0, 0] = some ⟨.panel, .runLow, 0, .none⟩
      ∧ ¬ declinesNow 0 ⟨.remote, .stopped, 15, .none⟩ plant ∧ ¬ declinesNow 0 ⟨.panel, .runLow, 0, .none⟩ plant
      ∧ plant.units[(0 : UnitId)].state = .ready)
    ∧ (([.outOfService, .tripped, .localControl] : List UnitState).all (fun st =>
        (standing st).ready && decide (enrolledAt (standing st) 33 = some 0)
        && decide ((standing st).units[(0 : UnitId)].state = st)) = true)
    ∧ enrolledAt plant 44 = none ∧ unitReportOf [0, 0, 0] = none :=
  ⟨⟨by decide +kernel, plant_orders, by decide +kernel, by decide, by decide, not_declinesNow (by decide),
    not_declinesNow (by decide), by decide +kernel⟩, by decide +kernel, by decide +kernel, by decide⟩

/-- Unit 1 UNKNOWN, as after a reset, at the panel, MISSING and RESTING. -/
theorem standing_dispatch :
    DispatchLaws (standing .unknown) ∧ DispatchLaws (standing .localControl) ∧ DispatchLaws (standing .missing)
    ∧ DispatchLaws (standing .resting) :=
  ⟨dispatchLaws_of_check (by decide +kernel), dispatchLaws_of_check (by decide +kernel),
    dispatchLaws_of_check (by decide +kernel), dispatchLaws_of_check (by decide +kernel)⟩

/-- An UNKNOWN, a LOCAL and a MISSING unit that report, a RESTING one that reports a movement not ordered, and a READY
one that reports itself stopped. -/
theorem witness_SettledReportsAreApplied :
    (DispatchLaws (standing .unknown) ∧ DispatchLaws (standing .localControl) ∧ DispatchLaws (standing .missing)
      ∧ DispatchLaws (standing .resting))
    ∧ (∀ st, OrdersLaw (standing st))
    ∧ ([.unknown, .localControl, .missing, .resting, .ready] : List UnitState).all (fun st =>
        (standing st).ready && decide (enrolledAt (standing st) 33 = some 0) && (typeRecOf (standing st) 0).inUse
        && decide ((standing st).units[(0 : UnitId)].state = st)) = true
    ∧ unitReportOf [0, 2, 0, 0] = some ⟨.remote, .runLow, 0, .none⟩
    ∧ unitReportOf [0, 0, 0, 0] = some ⟨.remote, .stopped, 0, .none⟩ :=
  ⟨standing_dispatch, standing_orders, by decide +kernel, by decide, by decide⟩

/-- Each order, with the state it has produced and the motion its drive reports as it declines it. -/
def declines : List (UnitState × Order × Motion) :=
  [(.starting, .start .high, .stopped), (.raising, .restage .high, .runLow), (.lowering, .restage .low, .runHigh),
    (.stopping, .stop, .runHigh), (.stopping, .halt, .runHigh)]

theorem declines_laws :
    ∀ x ∈ declines, DispatchLaws (inFlightOf x.1 none x.2.1) ∧ OrdersLaw (inFlightOf x.1 none x.2.1) := by
  simp only [declines, List.forall_mem_cons, List.not_mem_nil, false_implies, implies_true, and_true]
  refine ⟨?_, ?_, ?_, ?_, ?_⟩ <;> exact ⟨dispatchLaws_of_check (by decide +kernel), ordersLaw_of_check (by decide +kernel)⟩

theorem witness_DeclinedOrdersAct :
    (∀ x ∈ declines, DispatchLaws (inFlightOf x.1 none x.2.1) ∧ OrdersLaw (inFlightOf x.1 none x.2.1))
    ∧ declines.all (fun x =>
      let s := inFlightOf x.1 none x.2.1
      s.ready && decide (enrolledAt s 34 = some 1) && decide (s.units[(1 : UnitId)].inFlight = some ⟨x.2.1, 100⟩)
      && (typeRecOf s 1).inUse && declineActs x.2.1 s.units[(1 : UnitId)].state
      && decide (unitReportOf [0, BitVec.ofNat 8 x.2.2.code, 0, 2] = some ⟨.remote, x.2.2, 0, .declined⟩)) = true :=
  ⟨declines_laws, by decide +kernel⟩

/-- Unit 1's poll timed, with a count of misses. -/
def missing (n : Nat) : State := setUnit 0 (fun r => { r with pollTimer := some 100, miss := n }) plant

/-- The laws of dispatch before a trip, a failure that a timer declares and a third miss. -/
theorem witness_TripsAreAnnounced :
    DispatchLaws plant ∧ DispatchLaws (inFlightOf .starting none (.start .high)) ∧ DispatchLaws (missing 2) :=
  ⟨plant_dispatch, dispatchLaws_of_check (by decide +kernel), dispatchLaws_of_check (by decide +kernel)⟩

theorem witness_SilentUnitsGoMissing :
    ((missing 1).ready = true ∧ (missing 1).units[(0 : UnitId)].pollTimer.isSome = true
      ∧ (missing 1).units[(0 : UnitId)].miss < 2)
    ∧ ((missing 2).ready = true ∧ mayGoMissing (missing 2).units[(0 : UnitId)].state = true
      ∧ (missing 2).units[(0 : UnitId)].pollTimer.isSome = true ∧ 2 ≤ (missing 2).units[(0 : UnitId)].miss)
    ∧ (inFlightOf .starting (some .high) (.start .high)).ready = true
    ∧ mayGoMissing (inFlightOf .starting (some .high) (.start .high)).units[(1 : UnitId)].state = true
    ∧ (inFlightOf .starting (some .high) (.start .high)).units[(1 : UnitId)].inFlight.isSome = true := by
  decide +kernel

/-- An order unanswered of a unit that is OUT OF SERVICE, MISSING or VACANT by then. -/
theorem witness_SilentUnitsGoMissing_away :
    ([.outOfService, .missing, .vacant] : List UnitState).all (fun st =>
      (inFlightOf st none .stop).ready && !mayGoMissing (inFlightOf st none .stop).units[(1 : UnitId)].state
      && (inFlightOf st none .stop).units[(1 : UnitId)].inFlight.isSome) = true
    ∧ ∀ st, OrdersLaw (inFlightOf st none .stop) :=
  ⟨by decide +kernel, fun st => ordersLaw_of_check (by cases st <;> decide +kernel)⟩

/-- The four states in which a confirm timer runs. -/
theorem witness_ConfirmTimersDeclareFailures :
    ([.starting, .raising, .lowering, .stopping] : List UnitState).all (fun st =>
      (inFlightOf st none .stop).ready && decide ((inFlightOf st none .stop).units[(1 : UnitId)].state = st)
      && (inFlightOf st none .stop).units[(1 : UnitId)].confirmTimer.isSome) = true := by decide +kernel

/-- Unit 1 RESTING. -/
def resting : State := setUnit 0 (fun r => { r with state := .resting, restTimer := some 300 }) plant

theorem resting_dispatch : DispatchLaws resting := dispatchLaws_of_check (by decide +kernel)

theorem witness_RestRunSpacingAndRearmRunOut :
    (resting.ready = true ∧ TimersLaw resting ∧ DispatchLaws resting
      ∧ resting.units[(0 : UnitId)].restTimer.isSome = true)
    ∧ (running .high plant).units[(1 : UnitId)].minRun = .running 600
    ∧ { plant with engine := { plant.engine with spacingTimer := some 20, allowance := .spacing } : State
        }.engine.spacingTimer.isSome = true
    ∧ plant.horn.rearmTimer.isSome = true :=
  ⟨⟨by decide +kernel, by unfold TimersLaw; decide +kernel, resting_dispatch, by decide +kernel⟩, by decide +kernel⟩

/-- Unit 12 offered. -/
def offering : State := { inMode .setup plant with enrol := ⟨.waiting, some 11, some 2⟩ }

theorem witness_EnrolTakeEnrolsTheUnit :
    offering.ready = true ∧ offering.enrol.offered = some 11 ∧ ([0, 0, 0, 7] : List Octet).length = 4
    ∧ offering.units[(11 : UnitId)].state = .vacant
    ∧ { offering with enrol := ⟨.idle, some 11, none⟩ : State }.enrol.offered = some 11 := by decide +kernel

theorem witness_EnrolmentsBeginAndEnd :
    takes kindEnrolStart [0] plant ∧ takes kindEnrolStart [1] plant
    ∧ (offering.ready = true ∧ offering.enrol.state ≠ .idle) ∧ offering.enrol.timer.isSome = true
    ∧ plant.enrol.state = .idle :=
  ⟨plant_takes _ _, plant_takes _ _, by decide +kernel⟩

/-- SETUP with nothing in an ENROL RELEASE's way, its order queue empty and with one place left. -/
theorem witness_EnrolmentsBeginAndEnd_release :
    let full (n : Nat) : State := { inMode .setup plant with
      ring := { plant.ring with orders := List.replicate n (newEntry .release []) } }
    (∀ n, takes kindEnrolStart [1] (full n))
    ∧ ∀ n : Fin 16, (full n.val).station.mode = .setup ∧ (full n.val).enrol.state = .idle
      ∧ (∀ u : UnitId, (full n.val).units[u].state ≠ .stopping ∧ ordersFree (full n.val) u = true)
      ∧ (full n.val).ring.orders.length < 16 :=
  ⟨fun _ => ⟨(plant_takes kindEnrolStart []).1, rfl⟩, by decide +kernel⟩

theorem witness_MalformedSupplyLimitHasNoEffect :
    plant.ready = true ∧ ([] : List Octet).length ≠ 4 ∧ ([0, 0, 1] : List Octet).length ≠ 4
    ∧ ([0, 0, 0, 0, 1] : List Octet).length ≠ 4 := by decide +kernel

theorem witness_SupplyLimitAndSilenceAreTaken :
    plant.ready = true ∧ plant.limits.silenceTimer.isSome = true := by decide +kernel

/-- The plant on hold. -/
def held : State := { plant with limits := { plant.limits with hold := true, cap := 0 } }

theorem witness_PermitTelegramsAreTaken :
    (plant.ready = true ∧ plant.limits.hold = false) ∧ (held.ready = true ∧ held.limits.hold = true)
    ∧ ([0, 0, 0] : List Octet).length ≠ 4 ∧ ([0] : List Octet) ≠ [] := by decide +kernel

theorem witness_SheddingEndsWithinTheLimits :
    DispatchLaws starting ∧ EstimatesCurrent starting ∧ starting.station.mode ≠ .setup :=
  ⟨starting_dispatch, by unfold EstimatesCurrent; decide +kernel, by decide +kernel⟩

/-- An evaluation in SETUP. -/
theorem witness_SheddingEndsWithinTheLimits_setup :
    DispatchLaws (inMode .setup plant) ∧ (inMode .setup plant).station.mode = .setup
    ∧ (inMode .setup plant).engine.stack = [] ∧ (inMode .setup plant).engine.candidate = none
    ∧ (inMode .setup plant).ready = true ∧ 0 < (inMode .setup plant).evalDue :=
  ⟨dispatchLaws_of_check (by decide +kernel), by decide +kernel⟩

/-- A budget and a cap of 0. -/
def limited (s : State) : State := { s with limits := { s.limits with budget := 0, cap := 0 } }

/-- The candidate, and unit 2 STARTING and RUNNING HIGH, above the budget; unit 2 RUNNING HIGH above the cap too. -/
theorem witness_SheddingEndsWithinTheLimits_shed :
    (DispatchLaws (limited warned) ∧ (limited warned).engine.candidate.map Candidate.unit = some 1
      ∧ (limited warned).limits.budget < committedPower (limited warned))
    ∧ (DispatchLaws (limited starting) ∧ EstimatesCurrent (limited starting)
      ∧ (limited starting).station.mode ≠ .setup ∧ (limited starting).engine.candidate = none
      ∧ (limited starting).engine.stack = [] ++ 1 :: []
      ∧ (limited starting).limits.budget < committedPower (limited starting))
    ∧ (let s := limited (running .high plant)
      DispatchLaws s ∧ EstimatesCurrent s ∧ s.station.mode ≠ .setup ∧ s.engine.stack = [] ++ 1 :: []
      ∧ s.basins[basinOfUnit s 1].override = false ∧ s.limits.budget < committedPower s
      ∧ s.limits.cap < permitDischarge s ∧ turnsDown s 1 = true) :=
  ⟨⟨dispatchLaws_of_check (by decide +kernel), by decide +kernel⟩,
    ⟨dispatchLaws_of_check (by decide +kernel), by unfold EstimatesCurrent; decide +kernel, by decide +kernel⟩,
    dispatchLaws_of_check (by decide +kernel), by unfold EstimatesCurrent; decide +kernel, by decide +kernel⟩

/-- The station of 5.8 at low water: basin 1 voted at −2300, step 0. -/
def quiet : State := plantAt (-2300) 0

theorem witness_QuietEvaluationEntersStandby :
    (DispatchLaws quiet ∧ TargetLaw quiet)
    ∧ quiet.ready = true ∧ 0 < quiet.evalDue ∧ quiet.station.mode = .auto ∧ quiet.station.standby = false
    ∧ quiet.engine.stack = [] ∧ isIdle quiet = true ∧ committedPower quiet ≤ quiet.limits.budget
    ∧ permitDischarge quiet ≤ quiet.limits.cap ∧ quiet.engine.budgetUnmet = false ∧ quiet.engine.permitUnmet = false
    ∧ (∀ u : UnitId, quiet.store.units[u].enrolled = true → reportsRun quiet.units[u] = false)
    ∧ (∀ b : BasinId, quiet.store.basins[b].inUse = true →
        quiet.basins[b].status = .voted ∧ quiet.basins[b].step = 0 ∧ quiet.basins[b].atWake = false) :=
  ⟨⟨dispatchLaws_of_check (by decide +kernel), targetLaw_of_check (by decide +kernel)⟩, by decide +kernel⟩

theorem witness_QuietEvaluationEntersStandby_conditions :
    ∀ c : Condition, c.code ≤ 6 → isPending c quiet = false := by
  intro c _
  cases c <;> decide +kernel

/-- The station at low water in standby. -/
def asleep : State := { quiet with station := { quiet.station with standby := true } }

/-- The same, with two gauges sampled above the wake level already. -/
def waking : State :=
  { asleep with gauges := (asleep.gauges.set 1 (sampled (-2240))).set 2 (sampled (-2240)) }

/-- A report of RUN in standby and out of it; and what makes UNIT TRIPPED pending or sets an at-wake flag in standby. -/
theorem witness_QuietEvaluationEntersStandby_ends :
    (asleep.ready = true ∧ enrolledAt asleep 33 = some 0 ∧ asleep.station.standby = true
      ∧ unitReportOf [0, 2, 0, 0] = some ⟨.remote, .runLow, 0, .none⟩ ∧ plant.station.standby = false)
    ∧ (isPending .unitTripped asleep = false ∧ isPending .unitTripped (after (.unitReport 33 [0, 0, 7, 0]) asleep) = true
      ∧ ofBoard (.unitReport 33 [0, 0, 7, 0]) = false)
    ∧ waking.station.standby = true ∧ waking.basins[(0 : BasinId)].atWake = false
    ∧ (after (.levelReport 3 [1, 0xF7, 0x40]) waking).basins[(0 : BasinId)].atWake = true := by decide +kernel

/-- Unit 2 RUNNING past its minimum run with basin 1 voted at a level. -/
def past2 (x : Stage) (l : Int) (step : Nat) : State :=
  setUnit 1 (fun r => { r with minRun := .elapsed }) (running x (plantAt l step))

/-- Basin 1 dry under a running unit; a candidate whose basin is no more in deficit. -/
theorem witness_EvaluationStartsAtMostOne_stops :
    ((past2 .high (-2400) 0).ready = true ∧ 0 < (past2 .high (-2400) 0).evalDue ∧ endangered (past2 .high (-2400) 0) 1)
    ∧ (DispatchLaws (candidateIn .confirming quiet)
      ∧ (candidateIn .confirming quiet).engine.candidate = some ⟨1, .high, []⟩
      ∧ recheck (candidateIn .confirming quiet) ⟨1, .high, []⟩ = false)
    ∧ recheck (candidateIn .confirming plant) ⟨1, .high, []⟩ = true :=
  ⟨⟨by decide +kernel, by decide +kernel, by decide +kernel, .inl (by decide +kernel)⟩,
    ⟨dispatchLaws_of_check (by decide +kernel), by decide +kernel⟩, by decide +kernel⟩

/-- The surplus stage at target 0; at target 500, where unit 2 turns down from HIGH and stops from LOW; and at target
3000, where HIGH is needed. -/
theorem witness_EvaluationStartsAtMostOne_surplus :
    ((past2 .high (-2300) 0).store.basins[basinOfUnit (past2 .high (-2300) 0) 1].inUse = true
      ∧ (past2 .high (-2300) 0).basins[basinOfUnit (past2 .high (-2300) 0) 1].status ≠ .unseen
      ∧ (past2 .high (-2300) 0).basins[basinOfUnit (past2 .high (-2300) 0) 1].target = 0)
    ∧ ([past2 .high (-2000) 1, past2 .low (-2000) 1, past2 .high (-1700) 2] : List State).all (fun s =>
        decide (s.station.mode ≠ .setup) && s.store.basins[basinOfUnit s 1].inUse
        && decide (s.basins[basinOfUnit s 1].status ≠ .unseen) && decide (0 < s.basins[basinOfUnit s 1].target)
        && decide (s.engine.stack = [] ++ 1 :: []) && (typeRecOf s 1).inUse
        && decide (s.units[(1 : UnitId)].state = .running ∧ s.units[(1 : UnitId)].minRun = .elapsed)) = true := by
  decide +kernel

/-- No basin but basin 1 asks for delivery. -/
theorem takesTurn_of_first {s : State} (h : s.engine.candidate = none ∧ s.engine.allowance = .free ∧ wantsMore s 0)
    (k : ∀ c : BasinId, wantsMore s c → ¬ ranksBefore s c 0) : takesTurn s 0 :=
  ⟨h.1, h.2.1, h.2.2, fun c hc hr => absurd hr (k c hc)⟩

/-- Unit 2 RUNNING LOW with basin 1 in deficit: its raise is the option (5.8's tables, at −1700). -/
theorem witness_EvaluationStartsAtMostOne_raise :
    let s := running .low plant
    DispatchLaws s ∧ TargetLaw s ∧ takesTurn s (basinOfUnit s 1) ∧ isRaiseOption s 1 ∧ raiseFits s 1 := by
  refine ⟨dispatchLaws_of_check (by decide +kernel), targetLaw_of_check (by decide +kernel),
    takesTurn_of_first ?_ ?_, ?_, ?_⟩
  · unfold wantsMore; decide +kernel
  · unfold wantsMore ranksBefore; decide +kernel
  · unfold isRaiseOption; dsimp only; decide +kernel
  · unfold raiseFits permitFits; decide +kernel

/-- No unit running and basin 1 in deficit: unit 2, of the lowest start count, at HIGH (5.8, event a). -/
theorem witness_EvaluationStartsAtMostOne_start :
    DispatchLaws plant ∧ TargetLaw plant ∧ takesTurn plant (basinOfUnit plant 1)
    ∧ (∀ v : UnitId, basinOfUnit plant v = basinOfUnit plant 1 → isRaiseOption plant v → ¬ raiseFits plant v)
    ∧ isStartable plant 1 ∧ startFits plant 1 .high
    ∧ ∀ v : UnitId, isStartable plant v →
        ¬ (plant.store.units[v].startCount < plant.store.units[(1 : UnitId)].startCount
          ∨ (plant.store.units[v].startCount = plant.store.units[(1 : UnitId)].startCount ∧ v < 1)) := by
  have rest : ∀ v : UnitId, plant.units[v].state ≠ .running := by decide +kernel
  refine ⟨plant_dispatch, plant_targets, takesTurn_of_first ?_ ?_, fun v _ h => absurd h.1.2.1 (rest v), ?_, ?_, ?_⟩
  · unfold wantsMore; decide +kernel
  · unfold wantsMore ranksBefore; decide +kernel
  · unfold isStartable; decide +kernel
  · unfold startFits permitFits; decide +kernel
  · unfold isStartable; decide +kernel

/-- No basin asks for delivery at low water. -/
theorem witness_EvaluationStartsAtMostOne_none : ∀ b : BasinId, wantsMore quiet b → ¬ hasOption quiet b := by
  have none : ∀ b : BasinId, ¬ wantsMore quiet b := by unfold wantsMore; decide +kernel
  exact fun b h => absurd h (none b)

/-- An evaluation with a basin in deficit; the sixth stage with every basin in use delivering its target, with a
candidate and in SPACING; and the fifth stage over a unit in CONFIRMING. -/
theorem witness_EvaluationStartsAtMostOne :
    DispatchLaws plant ∧ exec .evaluation plant = .next (after .evaluation plant)
    ∧ ((after .evaluation plant).units[1].state = .confirming
      ∧ (after .evaluation plant).units[1].state ≠ plant.units[1].state)
    ∧ (∀ b : BasinId, quiet.store.basins[b].inUse = true → quiet.basins[b].target ≤ committedDelivery quiet b)
    ∧ (candidateIn .confirming plant).engine.candidate ≠ none
    ∧ (surplus ⟨candidateIn .confirming plant, []⟩).st.units[(1 : UnitId)].state = .confirming
    ∧ { plant with engine := { plant.engine with allowance := .spacing } : State }.engine.allowance = .spacing :=
  ⟨plant_dispatch, rfl, by decide +kernel⟩

/-- The candidate CONFIRMING with every demand poll ended (5.8, event b). -/
def confirmed : State := candidateIn .confirming plant

theorem witness_CandidateGoesOn :
    (DispatchLaws confirmed ∧ DispatchLaws warned)
    ∧ (confirmed.ready = true ∧ confirmed.engine.candidate = some ⟨1, .high, []⟩
      ∧ confirmed.units[(1 : UnitId)].state = .confirming ∧ confirmed.station.mode ≠ .setup
      ∧ ordersFree confirmed 1 = true ∧ (typeRecOf confirmed 1).inUse = true)
    ∧ warned.ready = true ∧ warned.engine.candidate = some ⟨1, .high, []⟩ ∧ warned.horn.warningTimer.isSome = true
    ∧ warned.station.mode ≠ .setup ∧ ordersFree warned 1 = true ∧ (typeRecOf warned 1).inUse = true :=
  ⟨⟨dispatchLaws_of_check (by decide +kernel), warned_dispatch⟩, by decide +kernel⟩

theorem witness_StationRecordIsWritten :
    (stationOctets StationRec.firstPower).length = 24
    ∧ takes kindTableWrite (1 :: 0 :: 1 :: stationOctets StationRec.firstPower) plant :=
  ⟨by decide, plant_takes _ _⟩

theorem witness_SingleRecordsAreWritten :
    ((gaugeOctets (gauge 31 5)).length = 12 ∧ numAt (gaugeOctets (gauge 31 5)) 0 1 ≤ 1)
    ∧ (riverOctets ⟨50, 120, 1500⟩).length = 6
    ∧ (([1, 0, 0, 0, 1, 1, 1, 1, 0, 9] : List Octet).length = 10 ∧ numAt [1, 0, 0, 0, 1, 1, 1, 1, 0, 9] 0 1 ≤ 1
      ∧ numAt [1, 0, 0, 0, 1, 1, 1, 1, 0, 9] 7 1 ≤ 1)
    ∧ ∀ p, takes kindTableWrite p plant :=
  ⟨by decide, by decide, by decide, plant_takes _⟩

/-- The record numbers next to the tables' ends (R185). -/
theorem witness_SingleRecordsAreWritten_unknown :
    (15 < (16 : Octet).toNat ∧ (gaugeOctets (gauge 31 5)).length = 12 ∧ numAt (gaugeOctets (gauge 31 5)) 0 1 ≤ 1)
    ∧ ((1 : Octet) ≠ 0 ∧ (riverOctets ⟨50, 120, 1500⟩).length = 6)
    ∧ 12 < (13 : Octet).toNat ∧ ∀ p, takes kindTableWrite p plant :=
  ⟨by decide, by decide, by decide, plant_takes _⟩

/-- A write assembly under way. -/
def assembling (table record : Nat) (parts : List (List Octet)) : State :=
  { plant with station := { plant.station with assembly := some ⟨table, record, parts⟩ } }

theorem witness_PartedRecordsAreAssembled :
    ((partOf 1 ((basinOctets basin1).set 0 2)).length = 40 ∧ (partOf 1 (typeOctets type1)).length = 40
      ∧ numAt (partOf 1 (typeOctets type1)) 0 1 ≤ 1)
    ∧ (partOf 2 (typeOctets type1)).length = 40
    ∧ (assembling 5 4 [partOf 1 (typeOctets type1)]).station.assembly = some ⟨5, 4, [partOf 1 (typeOctets type1)]⟩
    ∧ plant.station.assembly = none
    ∧ ((partOf 2 (basinOctets basin1)).length = 12
      ∧ (assembling 4 4 [partOf 1 (basinOctets basin1)]).station.assembly
          = some ⟨4, (3 : BasinId).val + 1, [partOf 1 (basinOctets basin1)]⟩)
    ∧ (partOf 3 (typeOctets type1)).length = 30
    ∧ (assembling 5 1 [partOf 1 (typeOctets type1), partOf 2 (typeOctets type1)]).station.assembly
        = some ⟨5, (0 : TypeId).val + 1, [partOf 1 (typeOctets type1), partOf 2 (typeOctets type1)]⟩ := by
  decide +kernel

theorem witness_PartedRecordsAreAssembled_unknown :
    (4 < (5 : Octet).toNat ∧ (assembling 4 5 [partOf 1 (basinOctets basin1)]).station.assembly
        = some ⟨4, (5 : Octet).toNat, [partOf 1 (basinOctets basin1)]⟩)
    ∧ (assembling 5 0 [partOf 1 (typeOctets type1), partOf 2 (typeOctets type1)]).station.assembly
        = some ⟨5, (0 : Octet).toNat, [partOf 1 (typeOctets type1), partOf 2 (typeOctets type1)]⟩ := by
  decide +kernel

/-- The last part of basin record 4 with basin record 3's assembly, with a type record's, and with none. -/
theorem witness_PartedRecordsAreAssembled_follows (first : List Octet) :
    (assembling 4 3 [partOf 1 (basinOctets basin1)]).station.assembly ≠ some ⟨4, (4 : Octet).toNat, [first]⟩
    ∧ (assembling 5 4 [partOf 1 (typeOctets type1)]).station.assembly ≠ some ⟨4, (4 : Octet).toNat, [first]⟩
    ∧ plant.station.assembly ≠ some ⟨4, (4 : Octet).toNat, [first]⟩ := by
  refine ⟨?_, ?_, ?_⟩ <;> intro h <;> simp [assembling] at h
  exact absurd h (by rw [show plant.station.assembly = none by decide +kernel]; simp)

/-- An assembly of record 4 whose in use octet is 02h, the first value beyond the two. -/
theorem witness_PartedRecordsAreAssembled_unnamed :
    numAt (partOf 1 ((basinOctets basin1).set 0 2) ++ partOf 2 (basinOctets basin1)) 0 1 = 2
    ∧ (assembling 4 4 [partOf 1 ((basinOctets basin1).set 0 2)]).station.assembly
        = some ⟨4, (3 : BasinId).val + 1, [partOf 1 ((basinOctets basin1).set 0 2)]⟩ := by
  decide +kernel

theorem witness_PartedRecordsAreAssembled_takes (t r : Nat) (l : List (List Octet)) (p : List Octet) :
    takes kindTableWrite p (assembling t r l) := ⟨(plant_takes 0 []).1, rfl⟩

/-- R45, R172: part 1 of a basin record whose in use octet is 02h is accepted; the last part is refused with RANGE,
reason 3, and the assembly is empty after it. -/
theorem test_basin_in_use_is_checked_last :
    let first := partOf 1 ((basinOctets basin1).set 0 2)
    let half := after (.tableWritePart (4 :: 1 :: 1 :: first)) plant
    let whole := after (.tableWriteBasin (4 :: 1 :: 2 :: partOf 2 (basinOctets basin1))) (assembling 4 1 [first])
    half.ring.line = .sending .reply ⟨48, 63, kindAccepted, [kindTableWrite]⟩
    ∧ half.station.assembly = some ⟨4, 1, [first]⟩
    ∧ whole.ring.line = .sending .reply ⟨48, 63, kindRefused, [kindTableWrite, 3]⟩
    ∧ whole.station.assembly = none := by decide +kernel

/-- R45: for a record number that does not exist, UNKNOWN, reason 7, comes before the in use octet's RANGE. -/
theorem test_basin_number_is_checked_first :
    (after (.tableWriteBasin (4 :: 5 :: 2 :: partOf 2 (basinOctets basin1)))
      (assembling 4 5 [partOf 1 ((basinOctets basin1).set 0 2)])).ring.line
      = .sending .reply ⟨48, 63, kindRefused, [kindTableWrite, 7]⟩ := by decide +kernel

theorem witness_ReadsAnswerAndChangeNothing :
    (∃ octets, recordOctets plant.store 5 4 = some octets) ∧ hasPart 5 3 = true
    ∧ takes kindTableRead [5, 4, 3] plant ∧ takes kindStationQuery [] plant ∧ takes kindPointQuery [5] plant
    ∧ takes kindUnitQuery [12] plant ∧ takes kindCounterRead [0] plant ∧ takes kindCounterRead [1] plant :=
  ⟨⟨_, rfl⟩, by decide, plant_takes _ _, plant_takes _ _, plant_takes _ _, plant_takes _ _, plant_takes _ _,
    plant_takes _ _⟩

theorem witness_ModeIsSet :
    takes kindModeSet [3] plant ∧ 2 < (3 : Octet).toNat ∧ takes kindModeSet [BitVec.ofNat 8 Mode.manual.code] plant :=
  ⟨plant_takes _ _, by decide, plant_takes _ _⟩

/-- AUTO from SETUP with an enrolment under way. -/
theorem witness_ModeIsSet_enrolment :
    takes kindModeSet [BitVec.ofNat 8 Mode.auto.code] offering ∧ Mode.auto ≠ offering.station.mode
    ∧ offering.station.mode = .setup ∧ offering.enrol.state ≠ .idle := by
  refine ⟨⟨by decide +kernel, rfl⟩, by decide +kernel⟩

/-- MANUAL from AUTO in standby. -/
theorem witness_ModeIsSet_standby :
    takes kindModeSet [BitVec.ofNat 8 Mode.manual.code] asleep ∧ Mode.manual ≠ asleep.station.mode
    ∧ asleep.station.mode = .auto ∧ asleep.station.standby = true := by
  refine ⟨⟨by decide +kernel, rfl⟩, by decide +kernel⟩

/-- In MANUAL with unit 2 RUNNING at a stage. -/
def manual (x : Stage) : State := inMode .manual (running x plant)

theorem manual_dispatch : DispatchLaws (manual .low) ∧ DispatchLaws (manual .high) :=
  ⟨dispatchLaws_of_check (by decide +kernel), dispatchLaws_of_check (by decide +kernel)⟩

theorem manual_takes (x : Stage) (kind : Octet) (p : List Octet) : takes kind p (manual x) :=
  ⟨by cases x <;> decide +kernel, rfl⟩

theorem witness_ManualStartsAreChecked :
    takes kindManualOrder [BitVec.ofNat 8 (unitNumber 0), 1, BitVec.ofNat 8 Stage.low.code] (inMode .manual plant)
    ∧ DispatchLaws (manual .low) ∧ takes kindManualOrder [BitVec.ofNat 8 (unitNumber 1), 2, 2] (manual .low) :=
  ⟨⟨by decide +kernel, rfl⟩, manual_dispatch.1, manual_takes _ _ _⟩

theorem witness_ManualStopsAreApplied :
    DispatchLaws (manual .high) ∧ takes kindManualOrder [BitVec.ofNat 8 (unitNumber 1), 3, 0] (manual .high)
    ∧ takes kindManualOrder [BitVec.ofNat 8 (unitNumber 1), 4, 0] (manual .high)
    ∧ takes kindManualOrder [BitVec.ofNat 8 (unitNumber 1), 2, 1] (manual .high)
    ∧ (manual .high).station.mode = .manual ∧ (typeRecOf (manual .high) 1).inUse = true :=
  ⟨manual_dispatch.2, manual_takes _ _ _, manual_takes _ _ _, manual_takes _ _ _, by decide +kernel⟩

/-- A STOP of a unit number that there is not, its stage octet no stage, outside MANUAL. -/
theorem witness_ManualStopsAreApplied_mode :
    takes kindManualOrder [13, 3, 7] plant ∧ takes kindManualOrder [13, 4, 7] plant
    ∧ takes kindManualOrder [13, 2, 1] plant ∧ plant.station.mode ≠ .manual :=
  ⟨plant_takes _ _, plant_takes _ _, plant_takes _ _, by decide +kernel⟩

theorem witness_ServiceAndTripClearAct :
    (takes kindUnitService [BitVec.ofNat 8 (unitNumber 0), 0] plant
      ∧ takes kindUnitService [BitVec.ofNat 8 (unitNumber 11), 0] offering
      ∧ offering.units[(11 : UnitId)].state = .vacant ∧ offering.enrol.offered = some 11)
    ∧ takes kindUnitService [BitVec.ofNat 8 (unitNumber 0), 1] plant
    ∧ takes kindTripClear [BitVec.ofNat 8 (unitNumber 0)] plant :=
  ⟨⟨plant_takes _ _, ⟨by decide +kernel, rfl⟩, by decide +kernel⟩, plant_takes _ _, plant_takes _ _⟩

theorem witness_ConditionsAreCleared :
    takes kindConditionClear [0] plant ∧ takes kindConditionClear [13] plant ∧ takes kindConditionClear [14] plant :=
  ⟨plant_takes _ _, plant_takes _ _, plant_takes _ _⟩

/-- A trip whose ATTENTION is new. -/
theorem witness_ConditionsAreCleared_announced :
    (DispatchLaws plant ∧ PointsLaw plant ∧ VoteLaw plant ∧ ConditionsLaw plant)
    ∧ ofBoard (.unitReport 33 [0, 0, 7, 0]) = false
    ∧ (after (.unitReport 33 [0, 0, 7, 0]) plant).ring.replies.any
        (fun e => isAttention e && !plant.ring.replies.contains e) = true :=
  ⟨⟨plant_dispatch, by unfold PointsLaw; decide +kernel, plant_votes, by unfold ConditionsLaw; decide +kernel⟩,
    by decide +kernel⟩

/-- A RESTART whose ACCEPTED has gone out, with no collection and with one in progress; the relay closed. -/
theorem witness_RestartResetsTheController :
    takes kindRestart [] plant
    ∧ ({ plant with board := { plant.board with restart := .replied } : State }.ready = true
      ∧ { plant with board := { plant.board with restart := .replied } : State }.board.restart = .replied
      ∧ plant.ring.collecting = none)
    ∧ ({ collecting 7 with board := { plant.board with restart := .replied } : State }.ready = true
      ∧ (collecting 7).ring.collecting.isSome = true)
    ∧ State.reset.ready = true ∧ State.reset.board.relayClosed = true :=
  ⟨plant_takes _ _, by decide +kernel⟩

theorem witness_ResetInputAndPowerActOnTheBoard :
    plant.board.resetInput = false ∧ (withoutPower plant).board.powered = false ∧ plant.board.powered = true := by
  decide +kernel

/-! ## Small tests of single commands -/

/-- R7, R11, R12: gauge 1 reports −1590 with two others at −1700 and band 50: the median stands, FULL, and gauge 1
has disagreed once. -/
theorem test_level_report_votes_the_median :
    let t := after (.levelReport 1 [1, 0xF9, 0xCA]) plant
    t.gauges[(1 : GaugeId)].level = some (-1590) ∧ t.gauges[(1 : GaugeId)].disagree = 1
    ∧ t.points[(0 : PointId)].cur = ⟨.full, some (-1700), false⟩ := by decide +kernel

/-- R5: a report with a health octet of 2 is MALFORMED, and its gauge is voted no more. -/
theorem test_level_report_malformed :
    let t := after (.levelReport 9 [2, 0, 0]) plant
    t.gauges[(9 : GaugeId)].status = .malformed ∧ t.gauges[(9 : GaugeId)].level = none
    ∧ t.points[(4 : PointId)].cur = ⟨.degraded, some 1500, false⟩ := by decide +kernel

/-- R8: the sample keeps its level and the vote is over the two that are left. -/
theorem test_stale_timer :
    let t := after (.staleTimerExpiry 3) plant
    t.gauges[(3 : GaugeId)].status = .stale ∧ t.gauges[(3 : GaugeId)].level = some (-1700)
    ∧ t.points[(0 : PointId)].cur.state = .reduced := by decide +kernel

/-- R14: gauge 9 alone counts at the river point, and its sample going stale leaves the point LOST at its level, the
lost timer armed with the river record's hold time. -/
theorem test_last_usable_gauge_goes_stale :
    let t := after (.staleTimerExpiry 9) { plant with gauges := upd plant.gauges 8 fun _ => .initial }
    usableAt t 4 = [] ∧ t.points[(4 : PointId)].cur = ⟨.lost, some 1500, false⟩
    ∧ t.points[(4 : PointId)].lostTimer = some 120 := by decide +kernel

/-- R14, R16: the river's hold runs out, and the fallback stage is in use. -/
theorem test_lost_timer_of_the_river :
    let t := after (.lostTimerExpiry 5) riverLost
    t.points[(4 : PointId)].published.holdExpired = true ∧ t.riverUse = ⟨1500, .fallback⟩
    ∧ isPending .pointLost t = true := by decide +kernel

/-- R17, R18: a round of five polls, four of them in the poll queue and the first on the line. -/
theorem test_gauge_poll_round :
    let t := after .gaugePollTimerExpiry plant
    t.ring.polls.length = 4 ∧ t.ring.backgroundDue = [9] ∧ t.ring.line = .sending .poll ⟨1, 63, kindLevelPoll, []⟩ := by
  decide +kernel

/-- R21: a demand poll unanswered. -/
theorem test_demand_poll_timeout :
    let t := after (.demandPollTimeout 9) (polled .demand)
    t.gauges[(9 : GaugeId)].faulty = some .silent ∧ t.gauges[(9 : GaugeId)].miss = 0
    ∧ isPending .gaugeFault t = true ∧ t.points[(4 : PointId)].cur.state = .degraded := by decide +kernel

/-- 5.8, event d. -/
theorem test_run_report_confirms_the_start :
    let t := after (.unitReport 34 [0, 3, 0, 0]) starting
    t.units[(1 : UnitId)].state = .running ∧ t.units[(1 : UnitId)].minRun = .running 600
    ∧ t.engine.allowance = .spacing ∧ t.engine.spacingTimer = some 20 ∧ committedPower t = 443
    ∧ committedDelivery t 0 = 4215 := by decide +kernel

/-- R71, R75: a trip code takes a running unit off the stack. -/
theorem test_trip_report :
    let t := after (.unitReport 34 [0, 0, 7, 0]) (running .high plant)
    t.units[(1 : UnitId)].state = .tripped ∧ t.units[(1 : UnitId)].trip = some (.driveTrip 7)
    ∧ t.engine.stack = [] ∧ isPending .unitTripped t = true := by decide +kernel

/-- R69, R83: the third miss, with no report of a running drive. -/
theorem test_unit_poll_timeout :
    let t := after (.unitPollTimeout 1) (missing 2)
    t.units[(0 : UnitId)].state = .missing ∧ t.units[(0 : UnitId)].miss = 3 ∧ isPending .unitSilent t = true := by
  decide +kernel

/-- R82: START FAILED, with a HALT that goes out at once to drive address 34. -/
theorem test_start_confirm_expiry :
    let t := after (.startConfirmExpiry 2) starting
    t.units[(1 : UnitId)].state = .tripped ∧ t.units[(1 : UnitId)].trip = some .startFailed
    ∧ t.ring.line = .sending .order ⟨34, 63, kindUnitOrder, [4]⟩ ∧ t.engine.allowance = .free := by decide +kernel

/-- R64: unit 12 is enrolled, and with no VACANT unit but 4 to 11 left the next offer is for unit 4. -/
theorem test_enrol_take :
    let t := after (.enrolTake 44 [0, 0, 0, 7]) offering
    t.store.units[(11 : UnitId)].identity = some 7 ∧ t.units[(11 : UnitId)].state = .unknown
    ∧ t.enrol = ⟨.offering, some 3, none⟩ ∧ t.ring.line = .sending .order ⟨32, 63, kindEnrolOffer, [4]⟩ := by
  decide +kernel

/-- R65: an offer's return ends the enrolment. -/
theorem test_enrol_offer_return :
    let t := after .enrolOfferReturn offering
    t.enrol.state = .idle ∧ isPending .enrolmentDone t = true := by decide +kernel

/-- 5.8, event b. -/
theorem test_confirming_end :
    let t := after .confirmingEnd confirmed
    t.units[(1 : UnitId)].state = .warning ∧ t.horn = ⟨true, true, some 30, none⟩ := by decide +kernel

/-- 5.8, event c: START at HIGH to drive address 34, the start count 10, unit 2 on the stack. -/
theorem test_warning_timer_expiry :
    let t := after .warningTimerExpiry warned
    t.units[(1 : UnitId)].state = .starting ∧ t.horn.line = false ∧ t.horn.required = false
    ∧ t.store.units[(1 : UnitId)].startCount = 10 ∧ t.engine.stack = [1]
    ∧ t.ring.line = .sending .order ⟨34, 63, kindUnitOrder, [1, 2]⟩ ∧ committedDelivery t 0 = 4215 := by
  decide +kernel

/-- 5.8, event f: after the spacing unit 1 becomes the candidate, P_c 1042. -/
theorem test_spacing_timer_expiry :
    let t := after .evaluation (after .spacingTimerExpiry
      { running .high (plantAt (-1590) 3) with
        engine := { plant.engine with stack := [1], allowance := .spacing, spacingTimer := some 20 } })
    t.units[(0 : UnitId)].state = .confirming ∧ t.engine.allowance = .held 0 .start ∧ committedPower t = 1042
    ∧ committedDelivery t 0 = 4264 := by decide +kernel

/-- 5.8, event j, with unit 2 alone running: permit shedding turns it down and then stops it, the STOP in the
RESTAGE's place. -/
theorem test_permit_hold_sheds :
    let t := after .evaluation (after (.permitHold []) (running .high { plant with ring :=
      { plant.ring with line := .gap } }))
    t.units[(1 : UnitId)].state = .stopping ∧ t.engine.stack = [] ∧ permitDischarge t = 0
    ∧ t.ring.orders = [⟨.unitOrder 1 .stop, false, false, 0⟩] ∧ t.engine.permitUnmet = false := by decide +kernel

/-- R127: 2000000 kW is clamped to 1000000, and B is the ceiling. -/
theorem test_supply_limit_clamps :
    let t := after (.supplyLimit [0x00, 0x1E, 0x84, 0x80]) plant
    t.limits.supplyLimit = 1000000 ∧ t.limits.budget = 2000 ∧ t.evalDue = plant.evalDue + 1 := by decide +kernel

/-- R129: the fallback budget equals the limit in force, so B stays and nothing is triggered. -/
theorem test_supply_silence :
    let t := after .supplySilenceExpiry plant
    t.limits.supplyState = .silent ∧ t.limits.silenceTimer = none ∧ t.limits.budget = 1500
    ∧ isPending .supplySilent t = true ∧ t.evalDue = plant.evalDue := by decide +kernel

/-- R158, R161: a SUPPLY LIMIT of 1000 kW from node 50, octet by octet on the line, is delivered. -/
theorem test_received_telegram_is_delivered :
    let x : Telegram := ⟨63, 50, kindSupplyLimit, [0, 0, 3, 0xE8]⟩
    (after .classification (after (.receiveTelegram ((frame x).map sent)) plant)).ring.delivered = [x] := by
  decide +kernel

/-- R159: a wrong check octet flags the entry, and classification counts it (R161). -/
theorem test_wrong_check_is_counted :
    let x : Telegram := ⟨63, 50, kindSupplyLimit, [0, 0, 3, 0xE8]⟩
    let t := after .classification
      (after (.receiveTelegram (((frame x).dropLast ++ [0]).map sent)) plant)
    t.ring.delivered = [] ∧ t.station.counters.lineFaults = 1 ∧ isPending .ringFault t = true := by decide +kernel

/-- R158: D5h has five ones, so its odd parity bit is 0; on the line the bits go out least significant first. -/
theorem test_start_octet_on_the_line :
    lineBits (sent startOctet)
      = [false, true, false, true, false, true, false, true, true, false, true]
    ∧ octetOfBits (lineBits (sent startOctet)) = some ⟨0xD5, false⟩
    ∧ parityOk ⟨0xD5, true⟩ = false := by decide

/-- R159: a LENGTH telegram cut short, 5 of the 49 payload octets taken, is TRUNCATED too; complete, it is not. -/
theorem test_length_and_truncated :
    let cut := after .receiveSilence (after (.receiveTelegram (List.replicate 5 (sent 0)))
      { collecting 0 with ring := { (collecting 0).ring with collecting := some ⟨[63, 1, 0x11, 49], false, 0⟩ } })
    let whole := after .receiveSilence { collecting 0 with ring :=
      { (collecting 0).ring with collecting := some ⟨[63, 1, 0x11, 49], false, 51⟩ } }
    cut.ring.rx.map RxEntry.flags = [⟨false, true, true, false⟩]
    ∧ whole.ring.rx.map RxEntry.flags = [⟨false, true, false, false⟩] := by decide +kernel

/-- R64: a take that comes after the enrolment has ended withdraws the offer still waiting, and offers no other. -/
theorem test_late_take_withdraws_the_offer :
    let t := after (.enrolTake 44 [0, 0, 0, 7])
      { offering with
        enrol := ⟨.idle, some 11, none⟩
        ring := { offering.ring with line := .gap, orders := [⟨.offer 11, false, false, 0⟩] } }
    t.units[(11 : UnitId)].state = .unknown ∧ t.ring.orders = [] ∧ t.enrol = ⟨.idle, none, none⟩ := by decide +kernel

/-- R170: with a telegram in collection the relay stays open. -/
theorem test_restart_waits_for_the_collection :
    let s : State := { collecting 0 with board := { plant.board with restart := .replied } }
    after (.restartRelayClose .baud115200) s = s
    ∧ (after (.restartRelayClose .baud115200) (after .receiveSilence s)).board.relayClosed = true := by decide +kernel

/-- R163: an order of node 48 to unit 1's drive is blocked, one to the drive of unit 12 goes on. -/
theorem test_foreign_order_is_blocked :
    let t := after .classification (received (clean (foreign 33 48)) plant)
    let w := after .classification (received (clean (foreign 44 48)) plant)
    t.ring.forward = [] ∧ t.station.counters.blockedOrders = 1 ∧ isPending .foreignOrder t = true
    ∧ w.ring.forward = [foreign 44 48] ∧ w.station.counters.blockedOrders = 0 := by decide +kernel

/-- R167: the HALT deposited first goes out, though the other stands before it, and leaves the rotation at reply. -/
theorem test_halt_goes_first :
    let t := after .lineIdleGrant (inGap false)
    t.ring.line = .sending .order ⟨33, 63, kindUnitOrder, [4]⟩ ∧ t.ring.rotation = .reply := by decide +kernel

/-- R176, R186: STATION STATUS of the plant: AUTO, horn required, rearm timer running; CURRENT from the permit node;
then, from its sixth octet, B = 1500 and C = 12000. -/
theorem test_station_status :
    (stationStatus plant).take 11 = [0x4C, 0x60, 0, 0, 0, 0, 5, 0xDC, 0, 0x2E, 0xE0] := by decide +kernel

/-- R175: a write of the station record in AUTO is refused with MODE, reason 2. -/
theorem test_station_write_in_auto :
    (after (.tableWriteStation (1 :: 0 :: 1 :: stationOctets StationRec.firstPower)) plant).ring.line
      = .sending .reply ⟨48, 63, kindRefused, [kindTableWrite, 2]⟩ := by decide +kernel

/-- R174, 10.5: gauge 1's record as it is read: node 1, point 1, BINARY, offset 0, −4000 to +4000, 60 s. -/
theorem test_table_read_of_a_gauge :
    (after (.tableRead [2, 1, 1]) plant).ring.line
      = .sending .reply ⟨48, 63, kindTableContent,
          [kindTableRead, 2, 1, 1, 1, 1, 1, 0, 0, 0, 0xF0, 0x60, 0x0F, 0xA0, 0, 60]⟩ := by decide +kernel

/-- R181: the counters are read and set to 0. -/
theorem test_counter_read_clears :
    let s := bump Counters.upForwarded plant
    let t := after (.counterReadClear [1]) s
    t.ring.line = .sending .reply ⟨48, 63, kindCounterStatus, [kindCounterRead, 0, 0, 0, 0, 0, 1, 0, 0, 0, 0, 0, 0, 0, 0]⟩
    ∧ t.station.counters.forwarded = 0 := by decide +kernel

/-- R145: a manual order in AUTO is refused with MODE; in MANUAL a START of unit 1 at HIGH makes it the candidate. -/
theorem test_manual_start :
    (after (.manualOrderStart [1, 1, 2]) plant).ring.line = .sending .reply ⟨48, 63, kindRefused, [kindManualOrder, 2]⟩
    ∧ (after (.manualOrderStart [1, 1, 2]) (inMode .manual plant)).engine.allowance = .held 0 .start := by
  decide +kernel

/-- R91: the unit leaves service, and its flag in the table store with it. -/
theorem test_unit_service_out :
    let t := after (.unitServiceOut [1, 0]) plant
    t.units[(0 : UnitId)].state = .outOfService ∧ t.store.units[(0 : UnitId)].inService = false := by decide +kernel

/-- R169, R23, R182: the controller reset of the tables of first power leaves the state after reset. -/
theorem test_controller_reset_is_reset : controllerReset .baud115200 State.reset = State.reset := by decide +kernel

/-- R92, R139, R156: a reset of the plant keeps its tables and begins afresh. -/
theorem test_reset_input :
    let t := after (.resetInput .baud38400) (running .high plant)
    t.units[(1 : UnitId)].state = .unknown ∧ t.station.mode = .setup ∧ t.engine.stack = [] ∧ t.limits.budget = 1500
    ∧ t.store = plant.store ∧ t.board.lineRate = .baud38400 ∧ t.ring.polls.length = 4 := by decide +kernel

/-- R180: the ATTENTION of UNIT TRIPPED, code 2, with itself alone pending; with the reply queue full it is counted. -/
theorem test_attention_of_a_trip :
    (after (.unitReport 33 [0, 0, 7, 0]) plant).ring.replies = [⟨⟨48, 63, 0x6F, [2, 0, 2]⟩, false⟩]
    ∧ (after (.unitReport 33 [0, 0, 7, 0]) noRoom).station.counters.droppedAttentions = 1 := by decide +kernel

/-- R165: with three ENROL RELEASEs waiting an offer still takes a place of its own. -/
theorem test_fourth_enrolment_telegram :
    let s := inMode .setup { plant with ring := { plant.ring with line := .gap, orders := List.replicate 3 ⟨.release, false, false, 0⟩ } }
    let t := after (.enrolStart [0]) s
    t.enrol = ⟨.offering, some 3, none⟩
    ∧ t.ring.orders = List.replicate 3 ⟨.release, false, false, 0⟩ ++ [⟨.offer 3, false, false, 0⟩] := by decide +kernel

/-- R65: as the mode leaves SETUP every offer that waits is withdrawn, another unit's too, and no other entry. -/
theorem test_leaving_setup_withdraws_offers :
    let s := { offering with ring := { offering.ring with
      line := .sending .order ⟨32, 63, kindEnrolOffer, [4]⟩
      orders := [⟨.offer 3, true, false, 0⟩, ⟨.offer 4, false, false, 0⟩, ⟨.release, false, false, 0⟩,
        ⟨.offer 11, false, false, 0⟩] } }
    let t := after (.modeSet [1]) s
    t.ring.orders = [⟨.offer 3, true, false, 0⟩, ⟨.release, false, false, 0⟩] ∧ t.enrol.state = .idle
    ∧ isPending .enrolmentDone t = true := by decide +kernel

/-- R174, R176: a point, a unit and a record to read that there is not are refused with UNKNOWN, reason 7. -/
theorem test_unknown_points_units_and_records :
    (after (.pointQuery [6]) plant).ring.line = .sending .reply ⟨48, 63, kindRefused, [kindPointQuery, 7]⟩
    ∧ (after (.unitQuery [0]) plant).ring.line = .sending .reply ⟨48, 63, kindRefused, [kindUnitQuery, 7]⟩
    ∧ (after (.tableRead [4, 5, 1]) plant).ring.line = .sending .reply ⟨48, 63, kindRefused, [kindTableRead, 7]⟩ := by
  decide +kernel

/-- R155: a wake flag ends standby. -/
theorem test_wake_ends_standby :
    let t := after (.levelReport 3 [1, 0xF7, 0x40]) waking
    t.station.standby = false ∧ t.horn.required = true ∧ t.pollTimers = ⟨some 5, some 2⟩ := by decide +kernel

end Sys2Proof.Tests
end

section
/-! The supply limit (R127, R128): what the Limits Unit leaves unchanged as it discards a malformed telegram. -/

namespace Sys2Proof.Machine

open Sys2Proof

/-! ## The delivered telegrams -/

/-- The frame of taking a delivered telegram: the queue of delivered telegrams alone. -/
theorem takeDelivered_frame (p : Telegram → Bool) (s : State) : unchangedBut [.delivered] s (takeDelivered p s) := by
  intro part hpart
  cases part with
  | delivered => exact absurd hpart (by simp)
  | _ => simp [same]

/-! ## SUPPLY LIMIT -/

theorem exec_supplyLimit (payload : List Octet) (s : State) :
    exec (.supplyLimit payload) s = execSupplyLimit payload s := rfl

/-- R128: of a payload of another length than 4 octets nothing is read; the telegram leaves the queue and no more. -/
theorem execSupplyLimit_malformed {payload : List Octet} {s : State} (hready : s.ready = true)
    (hlength : payload.length ≠ 4) :
    execSupplyLimit payload s = .next (takeDelivered (sameTelegram kindSupplyLimit addrSupply payload) s) := by
  rw [execSupplyLimit, whenReady_ready hready, if_neg hlength, takeFrom]

/-- Settles O43: the state is the one that taking the telegram leaves, whose frame is the delivered telegrams. -/
theorem malformedSupplyLimitHasNoEffect : Obligations.MalformedSupplyLimitHasNoEffect := by
  intro payload s hready hlength
  have htaken := (exec_supplyLimit payload s).trans (execSupplyLimit_malformed hready hlength)
  exact ⟨_, htaken, takeDelivered_ring_delivered s _, takeDelivered_frame _ s⟩

end Sys2Proof.Machine
end

section
/-! The law of the horn line (R147, R148): the parts of the state that it reads, how a transition ends a warning
period with its candidacy, and the start path that begins one. -/

namespace Sys2Proof.Machine

open Sys2Proof

-- One theorem at a time, as in the tests: in one text, theorems waiting side by side exhaust the threads.
set_option Elab.async false

variable {s t : State}

/-! ## What the law reads -/

/-- The horn line is inactive and no warning period runs (R147). -/
def HornSilent (s : State) : Prop := s.horn.line = false ∧ s.horn.warningTimer = none

theorem HornSilent.hornLaw (hs : HornSilent s) : HornLaw s := by
  obtain ⟨hline, htimer⟩ := hs
  simp [HornLaw, hline, htimer]

theorem HornLaw.silent_of_inactive (h : HornLaw s) (hline : s.horn.line = false) : HornSilent s := by
  obtain ⟨htimer, -, -⟩ := h
  rw [hline] at htimer
  exact ⟨hline, Option.not_isSome_iff_eq_none.mp (by simp [← htimer])⟩

theorem HornLaw.silent_of_not_ready (h : HornLaw s) (hready : s.ready = false) : HornSilent s := by
  obtain ⟨-, hr, -⟩ := id h
  exact h.silent_of_inactive (Bool.eq_false_iff.mpr fun hline => by simp [hr hline] at hready)

/-- Without a candidate there is no warning period (R147). -/
theorem HornLaw.silent_of_no_candidate (h : HornLaw s) (hnone : s.engine.candidate = none) : HornSilent s := by
  obtain ⟨-, -, hc⟩ := id h
  refine h.silent_of_inactive (Bool.eq_false_iff.mpr fun hline => ?_)
  obtain ⟨c, hcand, -⟩ := hc hline
  simp [hnone] at hcand

/-- A warning period is that of the candidate, which holds the allowance, so there is none while the allowance is
free (R95, R147). -/
theorem HornLaw.silent_of_free (h : HornLaw s) (ha : AllowanceLaw s) (hfree : s.engine.allowance = .free) :
    HornSilent s := by
  obtain ⟨-, -, hc⟩ := id h
  refine h.silent_of_inactive (Bool.eq_false_iff.mpr fun hline => ?_)
  obtain ⟨c, -, hwarning⟩ := hc hline
  have hheld := (ha c.unit .start).mpr (by rw [hwarning]; rfl)
  simp [hfree] at hheld

/-- The law stays as long as readiness, the horn line and the candidate's unit do, and the candidate stays in
WARNING. -/
theorem HornLaw.of_same (h : HornLaw s) (hready : s.ready = true → t.ready = true) (hhorn : same s t .hornLine)
    (hcand : t.engine.candidate.map Candidate.unit = s.engine.candidate.map Candidate.unit)
    (hstate : ∀ c, s.engine.candidate = some c → s.units[c.unit].state = .warning → t.units[c.unit].state = .warning) :
    HornLaw t := by
  obtain ⟨hline, htimer⟩ := hhorn
  obtain ⟨hl, hr, hc⟩ := h
  refine ⟨by rw [hline, htimer, hl], fun k => hready (hr (hline ▸ k)), fun k => ?_⟩
  obtain ⟨c, hcs, hwarning⟩ := hc (hline ▸ k)
  rw [hcs] at hcand
  obtain ⟨⟨_, x, l⟩, hd, rfl⟩ := Option.map_eq_some_iff.mp hcand
  exact ⟨_, hd, hstate c hcs hwarning⟩

/-- The law stays where the fields that it reads do. -/
theorem HornLaw.of_eq (h : HornLaw s) (hhorn : t.horn = s.horn) (hboard : t.board = s.board)
    (hcand : t.engine.candidate = s.engine.candidate) (hunits : t.units = s.units) : HornLaw t := by
  simp only [HornLaw, State.ready, hhorn, hboard, hcand, hunits]
  exact h

/-- The parts of the state that the law of the horn line reads. -/
def hornParts : List Part := [.units, .candidate, .hornLine, .board]

/-- What leaves those parts leaves the law. -/
theorem unchangedBut.hornLaw {l : List Part} (hu : unchangedBut l s t) (h : HornLaw s)
    (hl : ∀ p ∈ hornParts, p ∉ l := by decide) : HornLaw t := by
  have hp : ∀ p ∈ hornParts, same s t p := fun p hp => hu p (hl p hp)
  have hboard : t.board = s.board := hp .board (by decide)
  have hcand : t.engine.candidate = s.engine.candidate := hp .candidate (by decide)
  have hunits : ∀ u : UnitId, t.units[u].bare = s.units[u].bare := hp .units (by decide)
  have hstate : ∀ u : UnitId, t.units[u].state = s.units[u].state := fun u =>
    congrArg (fun r => r.state) (hunits u)
  exact h.of_same (fun k => by rw [State.ready, hboard]; exact k) (hp .hornLine (by decide)) (by rw [hcand])
    fun c _ k => (hstate c.unit).trans k

/-- What leaves the horn line leaves it silent. -/
theorem unchangedBut.hornSilent {l : List Part} (hu : unchangedBut l s t) (hs : HornSilent s)
    (hl : Part.hornLine ∉ l := by decide) : HornSilent t := by
  obtain ⟨hline, htimer⟩ := hu .hornLine hl
  exact ⟨hline.trans hs.1, htimer.trans hs.2⟩

/-! ## The shared operations -/

theorem ite_hornLaw {p : Prop} [Decidable p] (hs : HornLaw s) (ht : HornLaw t) : HornLaw (if p then s else t) := by
  split
  · exact hs
  · exact ht

theorem triggerIf_hornLaw (b : Bool) (h : HornLaw s) : HornLaw (triggerIf b s) :=
  ite_hornLaw ((trigger_frame s).hornLaw h) h

/-- A unit that is changed without leaving WARNING leaves the law. -/
theorem setUnit_hornLaw {u : UnitId} {f : UnitRt → UnitRt}
    (hf : s.units[u].state = .warning → (f s.units[u]).state = .warning) (h : HornLaw s) : HornLaw (setUnit u f s) := by
  refine h.of_same id ⟨rfl, rfl⟩ rfl fun c _ hv => ?_
  rw [setUnit_units, upd_getElem]
  split
  · rename_i hu
    subst hu
    exact hf hv
  · exact hv

/-- The end of a demand poll takes a gauge off the confirmation list, and leaves the candidate (R114). -/
theorem endDemandPoll_hornLaw (g : GaugeId) (h : HornLaw s) : HornLaw (endDemandPoll g s) := by
  refine h.of_same id ⟨rfl, rfl⟩ ?_ fun _ _ hu => hu
  change (s.engine.candidate.map _).map _ = _
  rw [Option.map_map]
  rfl

/-! ## A unit's transition -/

/-- The state of a transition before its reports: the entry into the state, and the end of the warning period where
it ends the candidacy (R116). -/
def enteredQuietly (u : UnitId) (st : UnitState) (x : Option Stage) (s : State) : State :=
  if s.engine.candidate.isSome && (entered u st x s).engine.candidate.isNone then endWarning (entered u st x s)
  else entered u st x s

/-- What follows in a transition: the reports, and the estimate formed again where the stage changes (R39, R71, R83,
R99). -/
theorem moveUnit_reports (u : UnitId) (st : UnitState) (x : Option Stage) (s : State) :
    unchangedBut (.estimates :: [.idle, .rearm] ++ announcing) (enteredQuietly u st x s) (moveUnit u st x s) := by
  have hreports : unchangedBut (.estimates :: [.idle, .rearm] ++ announcing) (enteredQuietly u st x s)
      (unitConditions (reportIdle (enteredQuietly u st x s))) := unchangedBut_mono (unitReports_frame _) (by decide)
  have hmove : moveUnit u st x s = if s.units[u].stage = x then unitConditions (reportIdle (enteredQuietly u st x s))
      else reformUnit u (unitConditions (reportIdle (enteredQuietly u st x s))) := rfl
  rw [hmove]
  split
  · exact hreports
  · exact unchangedBut_trans hreports (unchangedBut_mono (reformUnit_frame u _) (by decide))

theorem enteredQuietly_candidate (u : UnitId) (st : UnitState) (x : Option Stage) (s : State) :
    (enteredQuietly u st x s).engine.candidate = candidateMoved u st s.engine.candidate := by
  unfold enteredQuietly
  split <;> rfl

theorem moveUnit_candidate (u : UnitId) (st : UnitState) (x : Option Stage) (s : State) :
    (moveUnit u st x s).engine.candidate = candidateMoved u st s.engine.candidate :=
  (moveUnit_reports u st x s .candidate (by decide)).trans (enteredQuietly_candidate u st x s)

theorem moveUnit_state (u : UnitId) (st : UnitState) (x : Option Stage) (s : State) :
    (moveUnit u st x s).units[u].state = st := by
  obtain ⟨-, hself⟩ := moveUnit_units u st x s
  exact congrArg (fun r => r.state) hself

theorem moveUnit_ready (u : UnitId) (st : UnitState) (x : Option Stage) (s : State) :
    (moveUnit u st x s).ready = s.ready := by
  have hboard : (moveUnit u st x s).board = s.board := moveUnit_frame u st x s .board (by decide)
  rw [State.ready, hboard, State.ready]

/-- The candidate stays where its unit is another, or enters a state of the candidate (R97). -/
theorem candidateMoved_of_keeps {c : Candidate} {u : UnitId} {st : UnitState}
    (hk : c.unit ≠ u ∨ candidateState st = true) : candidateMoved u st (some c) = some c := by
  rcases hk with hk | hk <;> simp [candidateMoved, hk]

/-- The candidacy ends as its unit leaves the states of the candidate (R97). -/
theorem candidateMoved_of_leaves {c : Candidate} {u : UnitId} {st : UnitState} (hu : c.unit = u)
    (hst : candidateState st = false) : candidateMoved u st (some c) = none := by
  simp [candidateMoved, hu, hst]

/-- A transition begins no warning period. -/
theorem moveUnit_hornSilent (u : UnitId) (st : UnitState) (x : Option Stage) (hs : HornSilent s) :
    HornSilent (moveUnit u st x s) := by
  refine (moveUnit_reports u st x s).hornSilent ?_
  unfold enteredQuietly
  split
  · exact ⟨rfl, rfl⟩
  · exact hs

/-- A transition to a state that is not the candidate's keeps the law: without a candidate no warning period runs, its
own unit's transition ends the candidacy and the warning period with it, and another unit's touches neither (R116,
R147). -/
theorem moveUnit_hornLaw {u : UnitId} {st : UnitState} (x : Option Stage) (hst : candidateState st = false)
    (h : HornLaw s) : HornLaw (moveUnit u st x s) := by
  cases hc : s.engine.candidate with
  | none => exact (moveUnit_hornSilent u st x (h.silent_of_no_candidate hc)).hornLaw
  | some c =>
    by_cases hu : c.unit = u
    · have hends : s.engine.candidate.isSome && (entered u st x s).engine.candidate.isNone := by
        have hnone : (entered u st x s).engine.candidate = none :=
          (congrArg (candidateMoved u st) hc).trans (candidateMoved_of_leaves hu hst)
        simp [hc, hnone]
      have hquiet : HornSilent (enteredQuietly u st x s) := by
        rw [enteredQuietly, if_pos hends]
        exact ⟨rfl, rfl⟩
      exact ((moveUnit_reports u st x s).hornSilent hquiet).hornLaw
    · have hcand : (entered u st x s).engine.candidate = s.engine.candidate := by
        have hkeeps : candidateMoved u st (some c) = some c := candidateMoved_of_keeps (.inl hu)
        exact ((congrArg (candidateMoved u st) hc).trans hkeeps).trans hc.symm
      have hquiet : enteredQuietly u st x s = entered u st x s := by
        simp [enteredQuietly, hcand, hc]
      have hline : same s (moveUnit u st x s) .hornLine := by
        have hk := moveUnit_reports u st x s .hornLine (by decide)
        rw [hquiet] at hk
        exact hk
      refine h.of_same (fun k => (moveUnit_ready u st x s).trans k) hline ?_ fun d hd hwarning => ?_
      · rw [moveUnit_candidate, hc, candidateMoved_of_keeps (.inl hu)]
      · obtain rfl : d = c := Option.some.inj (hd.symm.trans hc)
        rw [(moveUnit_units u st x s).1 d.unit hu, hwarning]

end Sys2Proof.Machine
end

section
/-! The law of the horn line over the Level Voter, Basin Demand, the Unit Controller and the Dispatch Engine. -/

namespace Sys2Proof.Machine

open Sys2Proof

-- One theorem at a time, as in the tests: in one text, theorems waiting side by side exhaust the threads.
set_option Elab.async false

variable {s : State}

/-! ## Points, gauges and basins -/

theorem riverPublication_hornLaw (h : HornLaw s) : HornLaw (riverPublication s) := by
  unfold riverPublication reformAll
  exact (reformWhere_frame _ _).hornLaw (h.of_eq rfl rfl rfl rfl)

theorem publishPointWith_hornLaw {react : BasinId → State → State} (p : PointId)
    (hreact : ∀ (b : BasinId) (w : State), HornLaw w → HornLaw (react b w)) (h : HornLaw s) :
    HornLaw (publishPointWith react p s) := by
  unfold publishPointWith
  split
  · exact h
  · refine (trigger_frame _).hornLaw ((pointConditions_frame _).hornLaw ?_)
    split
    · exact hreact _ _ h
    · exact riverPublication_hornLaw h

theorem countDisagreement_hornLaw (p : PointId) (h : HornLaw s) : HornLaw (countDisagreement p s) := by
  unfold countDisagreement
  split
  · dsimp only
    split
    · exact (raiseCondition_announcing _ _).hornLaw (h.of_eq rfl rfl rfl rfl)
    · exact h
  · exact h

theorem countingVote_hornLaw (p : PointId) (h : HornLaw s) : HornLaw (countingVote p s) := by
  unfold countingVote
  exact ite_hornLaw ((publishPoint_frame _ _).hornLaw ((votePoint_frame _ _).hornLaw (countDisagreement_hornLaw p h))) h

theorem takeReading_hornLaw (g : GaugeId) (l : List Octet) (h : HornLaw s) : HornLaw (takeReading g l s) := by
  have hsample : HornLaw (takeSample g l s) := h
  have hvoted : HornLaw (match gaugePoint s.store.gauges[g] with
      | some p => countingVote p (takeSample g l s)
      | none => takeSample g l s) := by
    split
    · exact countingVote_hornLaw _ hsample
    · exact hsample
  exact ite_hornLaw (endDemandPoll_hornLaw g hvoted) hvoted

/-- A vote of the point that a gauge may name. -/
theorem revoteAt_hornLaw (o : Option PointId) (h : HornLaw s) :
    HornLaw (match o with
      | some p => revote p s
      | none => s) := by
  cases o with
  | none => exact h
  | some p => exact (revote_frame p s).hornLaw h

theorem staleExpiry_hornLaw (g : GaugeId) (h : HornLaw s) : HornLaw (staleExpiry g s) := by
  unfold staleExpiry
  exact ite_hornLaw (revoteAt_hornLaw (s := { s with gauges := _ }) _ h) h

theorem lostExpiry_hornLaw (p : PointId) (h : HornLaw s) : HornLaw (lostExpiry p s) := by
  unfold lostExpiry
  exact ite_hornLaw ((publishPoint_frame _ _).hornLaw (h.of_eq rfl rfl rfl rfl)) h

theorem backgroundTimeout_hornLaw (g : GaugeId) (h : HornLaw s) : HornLaw (backgroundTimeout g s) := by
  unfold backgroundTimeout
  exact ite_hornLaw (h.of_eq rfl rfl rfl rfl) h

theorem demandTimeout_hornLaw (g : GaugeId) (h : HornLaw s) : HornLaw (demandTimeout g s) := by
  unfold demandTimeout
  split
  · refine endDemandPoll_hornLaw g (revoteAt_hornLaw _ ?_)
    exact (raiseCondition_announcing _ _).hornLaw (h.of_eq rfl rfl rfl rfl)
  · exact h

/-! ## Rounds of polls -/

/-- A fold changes no more than its steps do. -/
theorem foldl_frame {α : Type} {parts : List Part} {f : State → α → State}
    (hf : ∀ (w : State) (a : α), unchangedBut parts w (f w a)) (l : List α) (s : State) :
    unchangedBut parts s (l.foldl f s) :=
  List.foldlRecOn l f (motive := unchangedBut parts s) (unchangedBut_refl parts s)
    fun w hw a _ => unchangedBut_trans hw (hf w a)

theorem placeBackground_frame (g : GaugeId) (s : State) :
    unchangedBut [.gauges, .due, .counters] s (placeBackground g s) := by
  unfold placeBackground
  split
  · split
    · exact unchangedBut_mono (bump_frame _ s) (by decide)
    · split
      · exact unchangedBut_refl _ s
      · intro p hp
        cases p <;> simp_all [same]
  · exact unchangedBut_refl _ s

theorem placeUnitPoll_frame (u : UnitId) (s : State) : unchangedBut [.due, .counters] s (placeUnitPoll u s) := by
  unfold placeUnitPoll
  split
  · split
    · exact unchangedBut_mono (bump_frame _ s) (by decide)
    · split
      · exact unchangedBut_refl _ s
      · intro p hp
        cases p <;> simp_all [same]
  · exact unchangedBut_refl _ s

theorem demandPoll_frame (g : GaugeId) (s : State) : unchangedBut [.gauges, .due] s (demandPoll g s) := by
  unfold demandPoll
  split
  · exact unchangedBut_refl _ s
  · intro p hp
    cases p <;> simp_all [same]
  · dsimp only
    split <;> intro p hp <;> cases p <;> simp_all [same]

theorem placeBackgroundRound_frame (s : State) :
    unchangedBut [.gauges, .due, .counters] s (placeBackgroundRound s) :=
  foldl_frame (fun w g => placeBackground_frame g w) allGauges s

theorem placeUnitRound_frame (s : State) : unchangedBut [.due, .counters] s (placeUnitRound s) :=
  foldl_frame (fun w u => placeUnitPoll_frame u w) allUnits s

theorem confirmLevels_frame (b : BasinId) (s : State) :
    unchangedBut [.gauges, .polls, .due, .line] s (confirmLevels b s) :=
  unchangedBut_trans
    (unchangedBut_mono (foldl_frame (fun w g => demandPoll_frame g w) (confirmationGauges s b) s) (by decide))
    (unchangedBut_mono (fillPolls_frame _) (by decide))

theorem gaugePollExpiry_hornLaw (h : HornLaw s) : HornLaw (gaugePollExpiry s) := by
  unfold gaugePollExpiry
  exact ite_hornLaw ((fillPolls_frame _).hornLaw ((placeBackgroundRound_frame _).hornLaw (h.of_eq rfl rfl rfl rfl))) h

theorem unitPollExpiry_hornLaw (h : HornLaw s) : HornLaw (unitPollExpiry s) := by
  unfold unitPollExpiry
  exact ite_hornLaw ((fillPolls_frame _).hornLaw ((placeUnitRound_frame _).hornLaw (h.of_eq rfl rfl rfl rfl))) h

/-! ## Units -/

theorem spendFree_hornLaw (u : UnitId) (h : HornLaw s) : HornLaw (spendFree u s) := by
  unfold spendFree
  exact ite_hornLaw h (h.of_eq rfl rfl rfl rfl)

theorem armConfirm_hornLaw (u : UnitId) (f : Config.TimeField) (h : HornLaw s) : HornLaw (armConfirm u f s) :=
  spendFree_hornLaw u (setUnit_hornLaw id h)

theorem armMinRun_hornLaw (u : UnitId) (h : HornLaw s) : HornLaw (armMinRun u s) :=
  spendFree_hornLaw u (setUnit_hornLaw id h)

theorem goResting_hornLaw (u : UnitId) (h : HornLaw s) : HornLaw (goResting u s) := by
  have hresting : HornLaw (spendFree u (moveUnit u .resting none s)) :=
    spendFree_hornLaw u (moveUnit_hornLaw none rfl h)
  unfold goResting
  dsimp only
  split
  · exact moveUnit_hornLaw none rfl hresting
  · exact setUnit_hornLaw id hresting

theorem issueOrder_hornLaw (u : UnitId) (o : Order) (h : HornLaw s) : HornLaw (issueOrder u o s) := by
  unfold issueOrder
  dsimp only
  split
  · exact setUnit_hornLaw id h
  · split
    · exact h
    · exact (depositOrder_frame _ s).hornLaw h

theorem releasePending_hornLaw (u : UnitId) (h : HornLaw s) : HornLaw (releasePending u s) := by
  unfold releasePending
  split
  · exact issueOrder_hornLaw u _ (setUnit_hornLaw id h)
  · exact h

theorem withdrawOrders_hornLaw (u : UnitId) (h : HornLaw s) : HornLaw (withdrawOrders u s) :=
  setUnit_hornLaw (s := { s with ring := _ }) id h

theorem leaveService_hornLaw {u : UnitId} {st : UnitState} (x : Option Stage) (hst : candidateState st = false)
    (h : HornLaw s) : HornLaw (leaveService u st x s) :=
  withdrawOrders_hornLaw u (moveUnit_hornLaw x hst h)

theorem tripUnit_hornLaw (u : UnitId) (reason : TripReason) (h : HornLaw s) : HornLaw (tripUnit u reason s) :=
  leaveService_hornLaw none rfl (setUnit_hornLaw id h)

theorem declareFailure_hornLaw (u : UnitId) (reason : TripReason) (h : HornLaw s) :
    HornLaw (declareFailure u reason s) :=
  tripUnit_hornLaw u reason (issueOrder_hornLaw u .halt h)

theorem goMissing_hornLaw (u : UnitId) (h : HornLaw s) : HornLaw (goMissing u s) := leaveService_hornLaw _ rfl h

theorem stopUnit_hornLaw (o : Order) (u : UnitId) (h : HornLaw s) : HornLaw (stopUnit o u s) :=
  armConfirm_hornLaw u .stopConfirm (moveUnit_hornLaw none rfl (issueOrder_hornLaw u o h))

theorem restageUnit_hornLaw (u : UnitId) (x : Stage) (h : HornLaw s) : HornLaw (restageUnit u x s) := by
  have hst : candidateState (if x = .high then .raising else .lowering) = false := by cases x <;> rfl
  exact armConfirm_hornLaw u .startConfirm (moveUnit_hornLaw _ hst (issueOrder_hornLaw u _ h))

theorem startUnit_hornLaw (u : UnitId) (h : HornLaw s) : HornLaw (startUnit u s) := by
  have hissued : HornLaw (issueOrder u (.start (s.units[u].stage.getD .high)) s) := issueOrder_hornLaw u _ h
  exact armConfirm_hornLaw u .startConfirm (moveUnit_hornLaw (s := setRecord u _ _) _ rfl hissued)

theorem confirmHolder_hornLaw (u : UnitId) (h : HornLaw s) : HornLaw (confirmHolder u s) := by
  unfold confirmHolder
  split
  · split <;> exact h
  · exact h

theorem unitEvent_hornLaw {f : State → State} (u : UnitId) (h : HornLaw (f s)) : HornLaw (unitEvent u f s) :=
  triggerIf_hornLaw _ (triggerIf_hornLaw _ h)

/-! ## Drive reports -/

theorem declined_hornLaw (u : UnitId) (o : Order) (h : HornLaw s) : HornLaw (declined u o s) := by
  unfold declined
  split
  · exact goResting_hornLaw u h
  · exact moveUnit_hornLaw _ rfl h
  · exact moveUnit_hornLaw _ rfl h
  · exact declareFailure_hornLaw u _ h
  · exact tripUnit_hornLaw u _ h
  · exact h

theorem answerOrder_hornLaw (u : UnitId) (o : OrderOutcome) (h : HornLaw s) : HornLaw (answerOrder u o s) := by
  unfold answerOrder
  split
  · refine releasePending_hornLaw u ?_
    split
    · exact declined_hornLaw u _ (setUnit_hornLaw id h)
    · exact setUnit_hornLaw id h
  · exact h

theorem takeAnswer_hornLaw (u : UnitId) (r : Report) (h : HornLaw s) : HornLaw (takeAnswer u r s) := by
  have hnoted : HornLaw (setUnit u (fun x => { x with lastReport := some r, miss := 0 }) s) := setUnit_hornLaw id h
  have hwoken : HornLaw (if r.motion.stage.isSome
      then standbyExit (setUnit u (fun x => { x with lastReport := some r, miss := 0 }) s)
      else setUnit u (fun x => { x with lastReport := some r, miss := 0 }) s) := by
    split
    · exact (standbyExit_frame _).hornLaw hnoted
    · exact hnoted
  unfold takeAnswer
  dsimp only
  split
  · exact setUnit_hornLaw id hwoken
  · exact answerOrder_hornLaw u _ hwoken

theorem tripRule_hornLaw (u : UnitId) (code : Nat) (h : HornLaw s) : HornLaw (tripRule u code s) := by
  unfold tripRule
  split
  · exact h
  · exact setUnit_hornLaw id h
  · exact h
  · exact tripUnit_hornLaw u _ h

theorem localRule_hornLaw (u : UnitId) (m : Motion) (h : HornLaw s) : HornLaw (localRule u m s) := by
  unfold localRule
  split
  · exact h
  · exact moveUnit_hornLaw _ rfl h
  · exact leaveService_hornLaw _ rfl h

theorem adopt_hornLaw (u : UnitId) (x : Stage) (h : HornLaw s) : HornLaw (adopt u x s) :=
  setUnit_hornLaw id (moveUnit_hornLaw _ rfl h)

theorem settle_hornLaw (u : UnitId) (m : Motion) (h : HornLaw s) : HornLaw (settle u m s) := by
  unfold settle
  split
  · exact goResting_hornLaw u h
  · split
    · exact stopUnit_hornLaw .stop u h
    · exact adopt_hornLaw u _ h
  · exact h

theorem unorderedMove_hornLaw (u : UnitId) (m : Motion) (h : HornLaw s) : HornLaw (unorderedMove u m s) := by
  unfold unorderedMove
  exact ite_hornLaw h (settle_hornLaw u m (moveUnit_hornLaw none rfl h))

theorem startConfirmed_hornLaw (u : UnitId) (x : Stage) (h : HornLaw s) : HornLaw (startConfirmed u x s) :=
  armMinRun_hornLaw u (moveUnit_hornLaw _ rfl (confirmHolder_hornLaw u h))

theorem raiseConfirmed_hornLaw (u : UnitId) (h : HornLaw s) : HornLaw (raiseConfirmed u s) :=
  moveUnit_hornLaw _ rfl (confirmHolder_hornLaw u h)

theorem motionRule_hornLaw (u : UnitId) (m : Motion) (h : HornLaw s) : HornLaw (motionRule u m s) := by
  unfold motionRule
  split
  case h_1 => exact settle_hornLaw u m h
  case h_2 | h_3 | h_4 | h_5 => exact unorderedMove_hornLaw u m h
  case h_6 =>
    split
    · exact startConfirmed_hornLaw u _ h
    · exact h
  case h_7 =>
    split
    · exact goResting_hornLaw u h
    · split
      · split
        · exact h
        · exact moveUnit_hornLaw _ rfl h
      · exact h
  case h_8 =>
    split
    · exact goResting_hornLaw u h
    · split
      · exact raiseConfirmed_hornLaw u h
      · exact h
  case h_9 =>
    split
    · exact goResting_hornLaw u h
    · split
      · exact moveUnit_hornLaw _ rfl h
      · exact h
  case h_10 =>
    split
    · exact goResting_hornLaw u h
    · exact h
  case h_11 => exact settle_hornLaw u m (moveUnit_hornLaw none rfl h)
  case h_12 | h_13 | h_14 | h_15 => exact h

theorem returnMissing_hornLaw (u : UnitId) (h : HornLaw s) : HornLaw (returnMissing u s) := by
  unfold returnMissing
  exact ite_hornLaw (moveUnit_hornLaw none rfl h) h

theorem stateRules_hornLaw (u : UnitId) (r : Report) (h : HornLaw s) : HornLaw (stateRules u r s) := by
  have hback : HornLaw (returnMissing u s) := returnMissing_hornLaw u h
  unfold stateRules
  dsimp only
  split
  · exact tripRule_hornLaw u _ hback
  · split
    · exact localRule_hornLaw u _ hback
    · exact motionRule_hornLaw u _ hback

theorem takeReport_hornLaw (u : UnitId) (r : Report) (h : HornLaw s) : HornLaw (takeReport u r s) := by
  have hanswered : HornLaw (takeAnswer u r s) := takeAnswer_hornLaw u r h
  unfold takeReport
  dsimp only
  split
  · exact hanswered
  · exact stateRules_hornLaw u r hanswered

/-! ## Timers of orders and polls -/

theorem unitPollMissed_hornLaw (u : UnitId) (h : HornLaw s) : HornLaw (unitPollMissed u s) := by
  unfold unitPollMissed
  dsimp only
  split
  · exact goMissing_hornLaw u (setUnit_hornLaw id h)
  · exact setUnit_hornLaw id h

theorem orderUnanswered_hornLaw (u : UnitId) (h : HornLaw s) : HornLaw (orderUnanswered u s) := by
  have hended : HornLaw (setUnit u (fun r => { r with inFlight := none }) s) := setUnit_hornLaw id h
  unfold orderUnanswered
  dsimp only
  split
  · refine goMissing_hornLaw u ?_
    split
    · exact releasePending_hornLaw u hended
    · exact hended
  · exact releasePending_hornLaw u hended

/-! ## Enrolment and service -/

theorem triggerIf_units (b : Bool) (s : State) : (triggerIf b s).units = s.units := by
  cases b <;> rfl

/-- The loss of an enrolment takes a candidate out of its candidacy before the unit begins afresh (R67). -/
theorem loseEnrolment_hornLaw (u : UnitId) (h : HornLaw s) : HornLaw (loseEnrolment u s) := by
  have hst : ∀ b : Bool, candidateState (if b then .vacant else .outOfService) = false := by decide
  have hleft : ∀ b : Bool, (if b then UnitState.vacant else .outOfService) ≠ .warning := by decide
  refine triggerIf_hornLaw _ ((trigger_frame _).hornLaw (setUnit_hornLaw (fun k => absurd k ?_) ?_))
  · exact fun k => hleft _ ((moveUnit_state u _ none s).symm.trans k)
  · exact moveUnit_hornLaw none (hst _) h

theorem loseEnrolment_units {u v : UnitId} (hv : v ≠ u) (s : State) :
    (loseEnrolment u s).units[v] = s.units[v] := by
  have hmoved := (moveUnit_units u (if s.store.units[u].inService then .vacant else .outOfService) none s).1 v hv
  refine Eq.trans ?_ hmoved
  have hfresh : (loseEnrolment u s).units
      = upd (moveUnit u (if s.store.units[u].inService then .vacant else .outOfService) none s).units u
          fun _ => UnitRt.fresh (if s.store.units[u].inService then .vacant else .outOfService) := triggerIf_units _ _
  rw [hfresh]
  exact upd_of_ne _ _ _ _ hv

theorem endEnrolment_hornLaw (h : HornLaw s) : HornLaw (endEnrolment s) :=
  (raiseCondition_announcing _ _).hornLaw (h.of_eq rfl rfl rfl rfl)

theorem nextOffer_hornLaw (h : HornLaw s) : HornLaw (nextOffer s) := by
  unfold nextOffer
  split
  · exact (depositOrder_frame _ _).hornLaw (h.of_eq rfl rfl rfl rfl)
  · exact endEnrolment_hornLaw h

theorem withdrawOffer_hornLaw (u : UnitId) (h : HornLaw s) : HornLaw (withdrawOffer u s) := h.of_eq rfl rfl rfl rfl

theorem leaveOffer_hornLaw (h : HornLaw s) : HornLaw (leaveOffer s) := by
  unfold leaveOffer
  exact ite_hornLaw (nextOffer_hornLaw (s := { s with enrol := _ }) h) h

theorem holderOf_ne {u k : UnitId} {id : Identity} (hk : holderOf s u id = some k) : k ≠ u := by
  have htest := List.find?_some hk
  simp only [Bool.and_eq_true, decide_eq_true_eq] at htest
  exact htest.1.1

/-- The unit that an enrolment begins afresh is VACANT, so it is in no warning period, after the loss of the other
holder of its identity too (R64). -/
theorem enrolUnit_hornLaw {u : UnitId} (id : Identity) (hvacant : s.units[u].state = .vacant) (h : HornLaw s) :
    HornLaw (enrolUnit u id s) := by
  have hafresh : ∀ w : State, w.units[u].state = .vacant → HornLaw w →
      HornLaw (withdrawOffer u (reformUnit u (setUnit u (fun _ => UnitRt.fresh .unknown)
        (setRecord u (fun r => { r with enrolled := true, identity := some id }) w)))) := fun w hwu hw =>
    withdrawOffer_hornLaw u ((reformUnit_frame u _).hornLaw
      (setUnit_hornLaw (fun k => absurd (hwu.symm.trans k) (by decide)) (hw.of_eq rfl rfl rfl rfl)))
  refine (trigger_frame _).hornLaw ((fillPolls_frame _).hornLaw (HornLaw.of_eq (leaveOffer_hornLaw ?_) rfl rfl rfl rfl))
  split
  · rename_i k hk
    exact hafresh _ (by rw [loseEnrolment_units (holderOf_ne hk).symm, hvacant]) (loseEnrolment_hornLaw k h)
  · exact hafresh _ hvacant h

theorem enrolmentLeavesSetup_hornLaw (h : HornLaw s) : HornLaw (enrolmentLeavesSetup s) := by
  unfold enrolmentLeavesSetup
  exact ite_hornLaw (endEnrolment_hornLaw h) h

theorem releaseEnrolments_hornLaw (h : HornLaw s) : HornLaw (releaseEnrolments s) := by
  refine (depositOrder_frame _ _).hornLaw (s := { List.foldl _ s allUnits with enrol := _ }) ?_
  refine List.foldlRecOn allUnits _ (motive := HornLaw) h fun w hw u _ => ?_
  split
  · exact loseEnrolment_hornLaw u hw
  · exact hw

theorem serviceOut_hornLaw (u : UnitId) (h : HornLaw s) : HornLaw (serviceOut u s) := by
  have hout : HornLaw (withdrawOrders u (moveUnit u .outOfService none
      (setRecord u (fun r => { r with inService := false }) s))) :=
    withdrawOrders_hornLaw u (moveUnit_hornLaw (s := setRecord u _ s) none rfl h)
  unfold serviceOut
  dsimp only
  split
  · exact h
  · split
    · refine leaveOffer_hornLaw ?_
      split <;> exact hout
    · exact hout

theorem serviceIn_hornLaw (u : UnitId) (h : HornLaw s) : HornLaw (serviceIn u s) := by
  unfold serviceIn
  dsimp only
  split
  · split
    · exact goResting_hornLaw (s := setRecord u _ s) u h
    · exact moveUnit_hornLaw (s := setRecord u _ s) none rfl h
  · exact h

/-! ## Evaluations -/

theorem askStop_hornLaw (u : UnitId) {p : Pass} (h : HornLaw p.st) : HornLaw (askStop u p).st := by
  unfold askStop
  split
  · exact stopUnit_hornLaw .stop u h
  · exact h

theorem askLower_hornLaw (u : UnitId) {p : Pass} (h : HornLaw p.st) : HornLaw (askLower u p).st := by
  unfold askLower
  split
  · exact restageUnit_hornLaw u .low h
  · exact h

theorem abandonUnit_hornLaw (u : UnitId) (h : HornLaw s) : HornLaw (abandonUnit u s) := moveUnit_hornLaw none rfl h

theorem askAbandon_hornLaw (u : UnitId) {p : Pass} (h : HornLaw p.st) : HornLaw (askAbandon u p).st := by
  unfold askAbandon
  split
  · exact abandonUnit_hornLaw u h
  · exact h

theorem protectiveStops_hornLaw {p : Pass} (h : HornLaw p.st) : HornLaw (protectiveStops p).st := by
  refine List.foldlRecOn allUnits _ (motive := fun q : Pass => HornLaw q.st) h fun q hq u _ => ?_
  split
  · exact askStop_hornLaw u hq
  · exact hq

theorem candidateRecheck_hornLaw {p : Pass} (h : HornLaw p.st) : HornLaw (candidateRecheck p).st := by
  unfold candidateRecheck
  split
  · split
    · exact h
    · exact askAbandon_hornLaw _ h
  · exact h

theorem shed_hornLaw (u : UnitId) {p : Pass} (h : HornLaw p.st) : HornLaw (shed u p).st := by
  unfold shed
  split
  · exact askLower_hornLaw u h
  · exact askStop_hornLaw u h

theorem budgetShedding_hornLaw (fuel : Nat) {p : Pass} (h : HornLaw p.st) : HornLaw (budgetShedding fuel p).st := by
  induction fuel generalizing p with
  | zero => exact h
  | succ fuel ih =>
    unfold budgetShedding
    split
    · exact h
    · split
      · exact ih (askAbandon_hornLaw _ h)
      · split
        · exact ih (shed_hornLaw _ h)
        · exact h

theorem permitShedding_hornLaw (fuel : Nat) {p : Pass} (h : HornLaw p.st) : HornLaw (permitShedding fuel p).st := by
  induction fuel generalizing p with
  | zero => exact h
  | succ fuel ih =>
    unfold permitShedding
    split
    · exact h
    · split
      · exact ih (shed_hornLaw _ h)
      · exact h

theorem setBudgetUnmet_hornLaw (h : HornLaw s) : HornLaw (setBudgetUnmet s) := by
  unfold setBudgetUnmet
  dsimp only
  split
  · exact h
  · exact (reportCondition_announcing _ _ _).hornLaw (h.of_eq rfl rfl rfl rfl)

theorem setPermitUnmet_hornLaw (h : HornLaw s) : HornLaw (setPermitUnmet s) := by
  unfold setPermitUnmet
  dsimp only
  split
  · exact h
  · exact (reportCondition_announcing _ _ _).hornLaw (h.of_eq rfl rfl rfl rfl)

theorem budgetStage_hornLaw {p : Pass} (h : HornLaw p.st) : HornLaw (budgetStage p).st := by
  have hshed : HornLaw (budgetShedding shedSteps p).st := budgetShedding_hornLaw shedSteps h
  unfold budgetStage
  dsimp only
  exact setBudgetUnmet_hornLaw hshed

theorem permitStage_hornLaw {p : Pass} (h : HornLaw p.st) : HornLaw (permitStage p).st := by
  have hshed : HornLaw (permitShedding shedSteps p).st := permitShedding_hornLaw shedSteps h
  unfold permitStage
  dsimp only
  exact setPermitUnmet_hornLaw hshed

theorem stopAll_hornLaw (b : BasinId) {p : Pass} (h : HornLaw p.st) : HornLaw (stopAll b p).st := by
  refine List.foldlRecOn allUnits _ (motive := fun q : Pass => HornLaw q.st) h fun q hq u _ => ?_
  split
  · exact askStop_hornLaw u hq
  · exact hq

theorem turnDownOne_hornLaw (b : BasinId) {p : Pass} (h : HornLaw p.st) : HornLaw (turnDownOne b p).st := by
  unfold turnDownOne
  split
  · exact h
  · dsimp only
    split
    · split
      · exact askLower_hornLaw _ h
      · split
        · exact askStop_hornLaw _ h
        · exact h
    · exact h

theorem surplus_hornLaw {p : Pass} (h : HornLaw p.st) : HornLaw (surplus p).st := by
  refine List.foldlRecOn allBasins _ (motive := fun q : Pass => HornLaw q.st) h fun q hq b _ => ?_
  unfold surplusOf
  split
  · split
    · exact stopAll_hornLaw b hq
    · exact turnDownOne_hornLaw b hq
  · exact hq

theorem raiseUnit_hornLaw (u : UnitId) (h : HornLaw s) : HornLaw (raiseUnit u s) :=
  restageUnit_hornLaw (s := holdAllowance u .raise s) u .high h

/-- A candidate is taken while no warning period runs, and begins none (R113). -/
theorem enterCandidate_hornLaw (u : UnitId) (x : Stage) (hs : HornSilent s) : HornLaw (enterCandidate u x s) :=
  ((confirmLevels_frame _ _).hornSilent (moveUnit_hornSilent u .confirming (some x) (by exact hs))).hornLaw

theorem takeOption_hornLaw {b : BasinId} {t : State} (hs : HornSilent s) (ht : takeOption s b = some t) :
    HornLaw t := by
  unfold takeOption at ht
  split at ht
  · obtain rfl := Option.some.inj ht
    exact raiseUnit_hornLaw _ hs.hornLaw
  · obtain ⟨c, -, rfl⟩ := Option.map_eq_some_iff.mp ht
    exact enterCandidate_hornLaw c.1 c.2 hs

theorem deficit_hornLaw {p : Pass} (h : HornLaw p.st) : HornLaw (deficit p).st := by
  unfold deficit
  split
  · rename_i hfree
    have hs : HornSilent p.st := h.silent_of_no_candidate (by simp_all)
    split
    · rename_i t ht
      obtain ⟨b, -, hb⟩ := List.exists_of_findSome?_eq_some ht
      exact takeOption_hornLaw hs hb
    · exact h
  · exact h

theorem standbyCheck_hornLaw (h : HornLaw s) : HornLaw (standbyCheck s) := by
  unfold standbyCheck
  exact ite_hornLaw (h.of_eq rfl rfl rfl rfl) h

theorem stages_hornLaw (h : HornLaw s) : HornLaw (stages s) := by
  have hstops : HornLaw (protectiveStops ⟨s, []⟩).st := protectiveStops_hornLaw h
  have hshed : HornLaw (permitStage (budgetStage (candidateRecheck (protectiveStops ⟨s, []⟩)))).st :=
    permitStage_hornLaw (budgetStage_hornLaw (candidateRecheck_hornLaw hstops))
  unfold stages
  dsimp only
  split
  · exact standbyCheck_hornLaw (deficit_hornLaw (surplus_hornLaw hshed))
  · exact hshed
  · exact permitStage_hornLaw (budgetStage_hornLaw hstops)

/-! ## The start path -/

theorem issueStart_hornLaw (u : UnitId) (h : HornLaw s) : HornLaw (issueStart u s) := by
  unfold issueStart
  exact ite_hornLaw (startUnit_hornLaw u h) h

theorem abandonTriggering_hornLaw (h : HornLaw s) : HornLaw (abandonTriggering s) := by
  refine (trigger_frame _).hornLaw ?_
  unfold abandon
  split
  · split
    · exact abandonUnit_hornLaw _ h
    · exact h
  · exact h

/-- The warning period that begins is that of the candidate, in WARNING (R115, R147). -/
theorem enterWarning_hornLaw {c : Candidate} (hready : s.ready = true) (hc : s.engine.candidate = some c) :
    HornLaw (enterWarning c.unit s) := by
  refine ⟨rfl, fun _ => (moveUnit_ready _ _ _ s).trans hready, fun _ => ⟨c, ?_, moveUnit_state _ _ _ s⟩⟩
  have hcand := moveUnit_candidate c.unit .warning s.units[c.unit].stage s
  rw [hc, candidateMoved_of_keeps (.inr rfl)] at hcand
  exact hcand

theorem endConfirming_hornLaw {c : Candidate} (hready : s.ready = true) (hc : s.engine.candidate = some c)
    (h : HornLaw s) : HornLaw (endConfirming c s) := by
  unfold endConfirming
  split
  · split
    · exact enterWarning_hornLaw hready hc
    · exact issueStart_hornLaw c.unit h
  · exact abandonTriggering_hornLaw h

theorem endWarned_hornLaw (h : HornLaw s) : HornLaw (endWarned s) := by
  unfold endWarned
  split
  · split
    · exact issueStart_hornLaw _ h
    · exact abandonTriggering_hornLaw h
  · exact h

end Sys2Proof.Machine
end

section
/-! The law of the horn line over the Ring Port, the Limits Unit, the management requests and the board; and over every
step. -/

namespace Sys2Proof.Machine

open Sys2Proof

-- One theorem at a time, as in the tests: in one text, theorems waiting side by side exhaust the threads.
set_option Elab.async false

variable {s : State}

/-! ## The Ring Port -/

theorem enqueue_hornLaw (e : RxEntry) (h : HornLaw s) : HornLaw (enqueue e s) := by
  unfold enqueue
  exact ite_hornLaw (h.of_eq rfl rfl rfl rfl) ((raiseCondition_announcing _ _).hornLaw ((bump_frame _ s).hornLaw h))

theorem receiveOctet_hornLaw (o : RxOctet) (h : HornLaw s) : HornLaw (receiveOctet s o) := by
  unfold receiveOctet
  split
  · exact ite_hornLaw (h.of_eq rfl rfl rfl rfl) h
  · exact ite_hornLaw (enqueue_hornLaw _ (h.of_eq rfl rfl rfl rfl)) (h.of_eq rfl rfl rfl rfl)

theorem deliver_hornLaw (x : Telegram) (h : HornLaw s) : HornLaw (deliver x s) := h.of_eq rfl rfl rfl rfl

theorem consume_hornLaw (x : Telegram) (h : HornLaw s) : HornLaw (consume x s) := by
  have hcounted : HornLaw (bump Counters.upOriginRefusals s) := (bump_frame _ s).hornLaw h
  unfold consume
  exact ite_hornLaw (deliver_hornLaw x h) (ite_hornLaw ((depositReply_frame _ _).hornLaw hcounted) hcounted)

theorem consumeBroadcast_hornLaw (x : Telegram) (h : HornLaw s) : HornLaw (consumeBroadcast x s) := by
  unfold consumeBroadcast
  exact ite_hornLaw (ite_hornLaw (deliver_hornLaw x h) ((bump_frame _ s).hornLaw h)) h

theorem dispose_hornLaw (x : Telegram) (h : HornLaw s) : HornLaw (dispose x s) := by
  have hforwarded : HornLaw (depositForward x s) := (depositForward_frame x s).hornLaw h
  have hblocked : HornLaw (blockOrder s) := (raiseCondition_announcing _ _).hornLaw ((bump_frame _ s).hornLaw h)
  unfold dispose
  exact ite_hornLaw (ite_hornLaw (deliver_hornLaw x h) h) (ite_hornLaw h (ite_hornLaw (consume_hornLaw x h)
    (ite_hornLaw (consumeBroadcast_hornLaw x hforwarded) (ite_hornLaw hblocked hforwarded))))

theorem classify_hornLaw (h : HornLaw s) : HornLaw (classify s) := by
  unfold classify
  split
  · exact h
  · dsimp only
    split
    · exact (raiseCondition_announcing _ _).hornLaw ((bump_frame _ _).hornLaw (h.of_eq rfl rfl rfl rfl))
    · exact ite_hornLaw h (dispose_hornLaw _ (h.of_eq rfl rfl rfl rfl))

theorem levelPollTimed_hornLaw (g : GaugeId) (e : PollEntry) (h : HornLaw s) : HornLaw (levelPollTimed g e s) := by
  unfold levelPollTimed
  exact ite_hornLaw (h.of_eq rfl rfl rfl rfl) h

theorem unitPollTimed_hornLaw (u : UnitId) (e : PollEntry) (h : HornLaw s) : HornLaw (unitPollTimed u e s) := by
  unfold unitPollTimed
  exact ite_hornLaw (setUnit_hornLaw id h) h

theorem orderInFlight_hornLaw (u : UnitId) (o : Order) (e : OrderEntry) (h : HornLaw s) :
    HornLaw (orderInFlight u o e s) := by
  unfold orderInFlight
  exact ite_hornLaw h (setUnit_hornLaw id h)

/-! ## The Limits Unit -/

theorem formBudget_hornLaw (h : HornLaw s) : HornLaw (formBudget s) := by
  unfold formBudget
  exact ite_hornLaw h ((trigger_frame _).hornLaw (h.of_eq rfl rfl rfl rfl))

theorem formCap_hornLaw (h : HornLaw s) : HornLaw (formCap s) := by
  unfold formCap
  exact ite_hornLaw h ((trigger_frame _).hornLaw (h.of_eq rfl rfl rfl rfl))

theorem supplyTaken_hornLaw (value : Nat) (h : HornLaw s) : HornLaw (supplyTaken value s) := by
  refine formBudget_hornLaw (ite_hornLaw ((reportCondition_announcing _ _ _).hornLaw ?_) ?_) <;>
    exact h.of_eq rfl rfl rfl rfl

theorem supplySilence_hornLaw (h : HornLaw s) : HornLaw (supplySilence s) :=
  formBudget_hornLaw ((reportCondition_announcing _ _ _).hornLaw (h.of_eq rfl rfl rfl rfl))

theorem setHold_hornLaw (b : Bool) (h : HornLaw s) : HornLaw (setHold b s) :=
  formCap_hornLaw ((reportCondition_announcing _ _ _).hornLaw (h.of_eq rfl rfl rfl rfl))

/-! ## The writes of records -/

theorem applyStation_hornLaw (r : StationRec) (h : HornLaw s) : HornLaw (applyStation r s) :=
  formCap_hornLaw (formBudget_hornLaw (h.of_eq rfl rfl rfl rfl))

theorem applyGauge_hornLaw (g : GaugeId) (r : GaugeRec) (h : HornLaw s) : HornLaw (applyGauge g r s) := by
  have hreplaced : HornLaw (replaceGauge g r s) := h.of_eq rfl rfl rfl rfl
  refine (trigger_frame _).hornLaw ((foldl_frame (fun w p => revote_frame p w) _ _).hornLaw ?_)
  exact ite_hornLaw (endDemandPoll_hornLaw g hreplaced) hreplaced

theorem applyRiver_hornLaw (r : RiverRec) (h : HornLaw s) : HornLaw (applyRiver r s) := by
  have hvoted : HornLaw (revote riverPoint { s with store := { s.store with river := r } }) :=
    (revote_frame riverPoint _).hornLaw (h.of_eq rfl rfl rfl rfl)
  refine (trigger_frame _).hornLaw ((reformWhere_frame (fun _ => true) _).hornLaw ?_)
  exact ite_hornLaw hvoted ((trigger_frame _).hornLaw (riverPublication_hornLaw hvoted))

theorem pointRewritten_hornLaw (b : BasinId) (was : Bool) (h : HornLaw s) : HornLaw (pointRewritten b was s) := by
  unfold pointRewritten
  split
  · exact h
  · exact h.of_eq rfl rfl rfl rfl
  · exact (votePoint_frame _ s).hornLaw h
  · exact (votePoint_frame _ _).hornLaw (h.of_eq rfl rfl rfl rfl)

theorem applyBasin_hornLaw (b : BasinId) (r : BasinRec) (h : HornLaw s) : HornLaw (applyBasin b r s) := by
  refine (trigger_frame _).hornLaw ((reformWhere_frame (fun x => decide (x.basin = b)) _).hornLaw ?_)
  refine (publishBasin_frame b _ _).hornLaw (publishPointWith_hornLaw _ (fun _ _ hw => hw) ?_)
  exact pointRewritten_hornLaw b _ (h.of_eq rfl rfl rfl rfl)

theorem applyType_hornLaw (x : TypeId) (r : TypeRec) (h : HornLaw s) : HornLaw (applyType x r s) :=
  (trigger_frame _).hornLaw ((reformWhere_frame _ _).hornLaw (h.of_eq rfl rfl rfl rfl))

theorem applyUnit_hornLaw (u : UnitId) (r : UnitWrite) (h : HornLaw s) : HornLaw (applyUnit u r s) := by
  unfold applyUnit
  split
  · exact (trigger_frame _).hornLaw ((reformUnit_frame u _).hornLaw (h.of_eq rfl rfl rfl rfl))
  · exact h

/-! ## Requests -/

/-- The effect of a verdict keeps the law, from any state that has the horn of `s`. -/
def Verdict.KeepsHornLaw (s : State) (v : Verdict) : Prop :=
  ∀ w : State, w.horn = s.horn → HornLaw w → HornLaw (v.effect w)

theorem refused_keepsHornLaw (r : Reason) : (refused r).KeepsHornLaw s := fun _ _ hw => hw

theorem accepted_keepsHornLaw {f : State → State} (hf : ∀ w, HornLaw w → HornLaw (f w)) :
    (accepted f).KeepsHornLaw s := fun w _ hw => hf w hw

theorem answered_keepsHornLaw {kind : Octet} {body : List Octet} {f : State → State}
    (hf : ∀ w, HornLaw w → HornLaw (f w)) : (answered kind body f).KeepsHornLaw s := fun w _ hw => hf w hw

theorem ite_keepsHornLaw {p : Prop} [Decidable p] {v w : Verdict} (hv : v.KeepsHornLaw s) (hw : w.KeepsHornLaw s) :
    (if p then v else w).KeepsHornLaw s := by
  split
  · exact hv
  · exact hw

theorem aboutUnit_keepsHornLaw (payload : List Octet) {f : UnitId → Verdict} (hf : ∀ u, (f u).KeepsHornLaw s) :
    (aboutUnit payload f).KeepsHornLaw s := by
  unfold aboutUnit
  split
  · split
    · exact hf _
    · exact refused_keepsHornLaw _
  · exact refused_keepsHornLaw _

theorem checked_keepsHornLaw (r : Option Reason) {f : State → State} (hf : ∀ w, HornLaw w → HornLaw (f w)) :
    (checked r f).KeepsHornLaw s := by
  unfold checked
  split
  · exact refused_keepsHornLaw _
  · exact accepted_keepsHornLaw hf

theorem writeStation_keepsHornLaw (record : Nat) (l : List Octet) (s w : State) :
    (writeStation record l w).KeepsHornLaw s := by
  unfold writeStation
  refine ite_keepsHornLaw (refused_keepsHornLaw _) (ite_keepsHornLaw (refused_keepsHornLaw _) ?_)
  split
  · exact ite_keepsHornLaw (accepted_keepsHornLaw fun _ hw => applyStation_hornLaw _ hw) (refused_keepsHornLaw _)
  · exact refused_keepsHornLaw _

theorem writeRecord_keepsHornLaw (table record : Nat) (l : List Octet) (s w : State) :
    (writeRecord table record l w).KeepsHornLaw s := by
  unfold writeRecord
  split
  · exact writeStation_keepsHornLaw record l s w
  · unfold writeGauge
    split
    · exact checked_keepsHornLaw _ fun _ hw => applyGauge_hornLaw _ _ hw
    · exact refused_keepsHornLaw _
  · exact ite_keepsHornLaw (refused_keepsHornLaw _) (checked_keepsHornLaw _ fun _ hw => applyRiver_hornLaw _ hw)
  · unfold writeBasin
    split
    · exact checked_keepsHornLaw _ fun _ hw => applyBasin_hornLaw _ _ hw
    · exact refused_keepsHornLaw _
  · unfold writeType
    split
    · exact checked_keepsHornLaw _ fun _ hw => applyType_hornLaw _ _ hw
    · exact refused_keepsHornLaw _
  · unfold writeUnit
    split
    · exact checked_keepsHornLaw _ fun _ hw => applyUnit_hornLaw _ _ hw
    · exact refused_keepsHornLaw _
  · exact refused_keepsHornLaw _

theorem setAssembly_hornLaw (a : Option Assembly) (h : HornLaw s) : HornLaw (setAssembly a s) :=
  h.of_eq rfl rfl rfl rfl

theorem laterPart_keepsHornLaw (table record k : Nat) (l : List Octet) (s w : State) :
    (laterPart table record k l w).KeepsHornLaw s := by
  unfold laterPart
  split
  · refine ite_keepsHornLaw (ite_keepsHornLaw (fun x hhorn hx => ?_) ?_) (refused_keepsHornLaw _)
    · exact writeRecord_keepsHornLaw _ _ _ s w (setAssembly none x) hhorn (setAssembly_hornLaw none hx)
    · exact accepted_keepsHornLaw fun _ hx => setAssembly_hornLaw _ hx
  · exact refused_keepsHornLaw _

theorem tableWrite_keepsHornLaw (payload : List Octet) (s : State) : (tableWrite payload s).KeepsHornLaw s := by
  unfold tableWrite
  split
  · exact refused_keepsHornLaw _
  · refine ite_keepsHornLaw (refused_keepsHornLaw _) ?_
    split
    · refine ite_keepsHornLaw ?_ (refused_keepsHornLaw _)
      exact ite_keepsHornLaw (writeRecord_keepsHornLaw _ _ _ s s) (ite_keepsHornLaw
        (accepted_keepsHornLaw fun _ hw => setAssembly_hornLaw _ hw) (laterPart_keepsHornLaw _ _ _ _ s s))
    · exact refused_keepsHornLaw _

theorem tableReading_keepsHornLaw (payload : List Octet) (s : State) : (tableReading payload s).KeepsHornLaw s := by
  unfold tableReading
  split
  · exact refused_keepsHornLaw _
  · refine ite_keepsHornLaw (refused_keepsHornLaw _) ?_
    split
    · refine ite_keepsHornLaw ?_ (refused_keepsHornLaw _)
      split
      · exact answered_keepsHornLaw fun _ hw => hw
      · exact refused_keepsHornLaw _
    · exact refused_keepsHornLaw _

theorem changeMode_hornLaw (m : Mode) (h : HornLaw s) : HornLaw (changeMode m s) := by
  have hmode : HornLaw { s with station := { s.station with mode := m } } := h.of_eq rfl rfl rfl rfl
  have hwoken : HornLaw (if s.station.mode = .auto then standbyExit { s with station := { s.station with mode := m } }
      else { s with station := { s.station with mode := m } }) :=
    ite_hornLaw ((standbyExit_frame _).hornLaw hmode) hmode
  exact (trigger_frame _).hornLaw (ite_hornLaw (enrolmentLeavesSetup_hornLaw hwoken) hwoken)

theorem modeSetting_keepsHornLaw (payload : List Octet) (s : State) : (modeSetting payload s).KeepsHornLaw s := by
  unfold modeSetting
  split
  · split
    · refine ite_keepsHornLaw (accepted_keepsHornLaw fun w hw => ?_) (ite_keepsHornLaw (refused_keepsHornLaw _)
        (accepted_keepsHornLaw fun _ hw => changeMode_hornLaw _ hw))
      split
      · exact (standbyExit_frame w).hornLaw hw
      · exact hw
    · exact refused_keepsHornLaw _
  · exact refused_keepsHornLaw _

/-- A manual START is accepted with the allowance free, so while no warning period runs (R95, R119). -/
theorem manualStart_keepsHornLaw (u : UnitId) (x : Stage) (ha : AllowanceLaw s) (h : HornLaw s) :
    (ruled (manualStart u x s)).KeepsHornLaw s := by
  unfold manualStart
  split
  · exact refused_keepsHornLaw _
  · rename_i hfree
    have hs : HornSilent s := h.silent_of_free ha (Classical.not_not.mp hfree)
    split
    · exact refused_keepsHornLaw _
    · split
      · exact refused_keepsHornLaw _
      · split
        · exact refused_keepsHornLaw _
        · intro w hhorn _
          exact enterCandidate_hornLaw u x (by rw [HornSilent, hhorn]; exact hs)

theorem manualRaise_keepsHornLaw (u : UnitId) (s : State) : (ruled (manualRaise u s)).KeepsHornLaw s := by
  unfold manualRaise
  split
  · exact refused_keepsHornLaw _
  · split
    · exact refused_keepsHornLaw _
    · split
      · exact refused_keepsHornLaw _
      · split
        · exact refused_keepsHornLaw _
        · exact accepted_keepsHornLaw fun _ hw => raiseUnit_hornLaw u hw

theorem manualLower_keepsHornLaw (u : UnitId) (s : State) : (ruled (manualLower u s)).KeepsHornLaw s := by
  unfold manualLower
  split
  · exact refused_keepsHornLaw _
  · split
    · exact accepted_keepsHornLaw fun _ hw => unitEvent_hornLaw u (restageUnit_hornLaw u .low hw)
    · exact refused_keepsHornLaw _

theorem manualStop_keepsHornLaw (u : UnitId) (s : State) : (ruled (manualStop u s)).KeepsHornLaw s := by
  unfold manualStop
  split
  · exact accepted_keepsHornLaw fun _ hw => abandonTriggering_hornLaw hw
  · split
    · exact accepted_keepsHornLaw fun _ hw => unitEvent_hornLaw u (stopUnit_hornLaw .stop u hw)
    · exact refused_keepsHornLaw _

theorem manualHalt_keepsHornLaw (u : UnitId) (s : State) : (ruled (manualHalt u s)).KeepsHornLaw s := by
  unfold manualHalt
  split
  · exact accepted_keepsHornLaw fun _ hw => abandonTriggering_hornLaw hw
  · split
    · exact accepted_keepsHornLaw fun _ hw => unitEvent_hornLaw u (stopUnit_hornLaw .halt u hw)
    · exact refused_keepsHornLaw _

theorem manualOrder_keepsHornLaw (payload : List Octet) (ha : AllowanceLaw s) (h : HornLaw s) :
    (manualOrder payload s).KeepsHornLaw s := by
  unfold manualOrder
  split
  · refine ite_keepsHornLaw (refused_keepsHornLaw _) ?_
    split
    · exact refused_keepsHornLaw _
    · split
      · rename_i u _ _ o _
        cases o with
        | start x => exact manualStart_keepsHornLaw u x ha h
        | restage x =>
          cases x with
          | high => exact manualRaise_keepsHornLaw u s
          | low => exact manualLower_keepsHornLaw u s
        | stop => exact manualStop_keepsHornLaw u s
        | halt => exact manualHalt_keepsHornLaw u s
      · exact refused_keepsHornLaw _
  · exact refused_keepsHornLaw _

theorem unitService_keepsHornLaw (payload : List Octet) (s : State) : (unitService payload s).KeepsHornLaw s := by
  unfold unitService
  split
  · refine ite_keepsHornLaw (refused_keepsHornLaw _) (aboutUnit_keepsHornLaw _ fun u => ite_keepsHornLaw ?_ ?_)
    · exact ite_keepsHornLaw (accepted_keepsHornLaw fun _ hw => unitEvent_hornLaw u (serviceOut_hornLaw u hw))
        (refused_keepsHornLaw _)
    · exact accepted_keepsHornLaw fun _ hw => unitEvent_hornLaw u (serviceIn_hornLaw u hw)
  · exact refused_keepsHornLaw _

theorem tripClearVerdict_keepsHornLaw (u : UnitId) (s : State) : (tripClearVerdict u s).KeepsHornLaw s :=
  ite_keepsHornLaw (accepted_keepsHornLaw fun _ hw => unitEvent_hornLaw u (goResting_hornLaw u hw))
    (refused_keepsHornLaw _)

theorem stationQuery_keepsHornLaw (payload : List Octet) (s : State) : (stationQuery payload s).KeepsHornLaw s :=
  ite_keepsHornLaw (answered_keepsHornLaw fun w hw => (setPending_frame _ _ w).hornLaw hw) (refused_keepsHornLaw _)

theorem pointQuery_keepsHornLaw (payload : List Octet) (s : State) : (pointQuery payload s).KeepsHornLaw s := by
  unfold pointQuery
  split
  · split
    · exact answered_keepsHornLaw fun _ hw => hw
    · exact refused_keepsHornLaw _
  · exact refused_keepsHornLaw _

theorem conditionClearing_keepsHornLaw (payload : List Octet) (s : State) :
    (conditionClearing payload).KeepsHornLaw s := by
  unfold conditionClearing
  split
  · split
    · refine accepted_keepsHornLaw fun w hw => ?_
      split
      · exact (setPending_frame _ _ w).hornLaw hw
      · exact hw
    · exact refused_keepsHornLaw _
  · exact refused_keepsHornLaw _

theorem counterReading_keepsHornLaw (payload : List Octet) (s : State) :
    (counterReading payload s).KeepsHornLaw s := by
  unfold counterReading
  split
  · exact ite_keepsHornLaw (answered_keepsHornLaw fun _ hw => hw) (ite_keepsHornLaw
      (answered_keepsHornLaw fun w hw => (bump_frame _ w).hornLaw hw) (refused_keepsHornLaw _))
  · exact refused_keepsHornLaw _

theorem enrolRequest_keepsHornLaw (payload : List Octet) (s : State) : (enrolRequest payload s).KeepsHornLaw s := by
  unfold enrolRequest
  split
  · refine ite_keepsHornLaw ?_ (ite_keepsHornLaw ?_ (refused_keepsHornLaw _))
    · exact ite_keepsHornLaw (refused_keepsHornLaw _) (ite_keepsHornLaw (refused_keepsHornLaw _)
        (accepted_keepsHornLaw fun _ hw => nextOffer_hornLaw hw))
    · exact ite_keepsHornLaw (refused_keepsHornLaw _) (ite_keepsHornLaw (refused_keepsHornLaw _)
        (accepted_keepsHornLaw fun _ hw => releaseEnrolments_hornLaw hw))
  · exact refused_keepsHornLaw _

theorem restarting_keepsHornLaw (payload : List Octet) (s : State) : (restarting payload s).KeepsHornLaw s :=
  ite_keepsHornLaw (fun _ _ hw => ite_hornLaw (hw.of_same id ⟨rfl, rfl⟩ rfl fun _ _ hu => hu) hw) (refused_keepsHornLaw _)

/-! ## The board -/

/-- A controller reset makes the horn line inactive and ends any warning period (R147, R169). -/
theorem controllerReset_hornSilent (pins : LineRate) (s : State) : HornSilent (controllerReset pins s) := by
  have hpublish : ∀ (w : State) (p : PointId), unchangedBut voting w (if pointInUse w p then publishPoint p w else w) := by
    intro w p
    split
    · exact publishPoint_frame p w
    · exact unchangedBut_refl _ w
  unfold controllerReset publishResets firstPolls reformAll
  refine (foldl_frame hpublish allPoints _).hornSilent ((fillPolls_frame _).hornSilent ?_)
  refine (placeBackgroundRound_frame _).hornSilent ((placeUnitRound_frame _).hornSilent ?_)
  exact (reformWhere_frame (fun _ => true) _).hornSilent ⟨rfl, rfl⟩

/-! ## Every command -/

/-- The law holds in the next state, where there is one. -/
def HornLawAfter (o : Host.Outcome State Fault Refusal) : Prop := ∀ t : State, o = .next t → HornLaw t

theorem hornLawAfter_next {t : State} (h : HornLaw t) : HornLawAfter (.next t) := fun _ ht =>
  Host.Outcome.next.inj ht ▸ h

theorem whenReady_hornLaw {f : State → State} (h : HornLaw s) (hf : s.ready = true → HornLaw (f s)) :
    HornLawAfter (whenReady s f) := by
  refine hornLawAfter_next ?_
  split
  · exact hf ‹_›
  · exact h

theorem onUnit_hornLaw (n : Nat) {f : UnitId → State → State} (h : HornLaw s) (hf : ∀ u, HornLaw (f u s)) :
    HornLawAfter (onUnit n s f) := by
  unfold onUnit
  split
  · exact whenReady_hornLaw h fun _ => hf _
  · exact fun _ ht => nomatch ht

theorem onGauge_hornLaw (n : Nat) {f : GaugeId → State → State} (h : HornLaw s) (hf : ∀ g, HornLaw (f g s)) :
    HornLawAfter (onGauge n s f) := by
  unfold onGauge
  split
  · exact whenReady_hornLaw h fun _ => hf _
  · exact fun _ ht => nomatch ht

theorem onPoint_hornLaw (n : Nat) {f : PointId → State → State} (h : HornLaw s) (hf : ∀ p, HornLaw (f p s)) :
    HornLawAfter (onPoint n s f) := by
  unfold onPoint
  split
  · exact whenReady_hornLaw h fun _ => hf _
  · exact fun _ ht => nomatch ht

theorem takeDelivered_hornLaw (p : Telegram → Bool) (h : HornLaw s) : HornLaw (takeDelivered p s) :=
  (takeDelivered_frame p s).hornLaw h

/-- The answer's place in the reply queue and its deposit leave the horn (R172). -/
theorem answerRequest_hornLaw {kind : Octet} {v : Verdict} (hv : v.KeepsHornLaw s) (h : HornLaw s) :
    HornLaw (answerRequest kind v s) := by
  have happlied : HornLaw (v.effect (holdReply (replyEntry kind v) s)) :=
    hv _ (holdReply_horn s _) (h.of_eq rfl rfl rfl rfl)
  exact (grant_frame _).hornLaw (happlied.of_eq rfl rfl rfl rfl)

/-- A request keeps the law where the effect of its verdict does. -/
theorem request_hornLaw {kind : Octet} {payload : List Octet} {rule : State → Verdict} (h : HornLaw s)
    (hrule : ∀ p, (rule (takeDelivered p s)).KeepsHornLaw (takeDelivered p s)) :
    HornLawAfter (request kind payload rule s) :=
  whenReady_hornLaw h fun _ => ite_hornLaw (answerRequest_hornLaw (hrule _) (takeDelivered_hornLaw _ h)) h

end Sys2Proof.Machine
end

section
/-! Every step keeps the law of the horn line: each command in turn, and the obligation. -/

namespace Sys2Proof.Machine

open Sys2Proof

-- One theorem at a time, as in the tests: in one text, theorems waiting side by side exhaust the threads.
set_option Elab.async false

variable {s : State}

/-! ## The commands of the Ring Port -/

theorem execReceiveTelegram_hornLaw (octets : List RxOctet) (h : HornLaw s) :
    HornLawAfter (execReceiveTelegram octets s) := by
  refine whenReady_hornLaw h fun _ => ite_hornLaw ?_ h
  exact List.foldlRecOn octets receiveOctet (motive := HornLaw) h fun _ hw o _ => receiveOctet_hornLaw o hw

theorem execReceiveSilence_hornLaw (h : HornLaw s) : HornLawAfter (execReceiveSilence s) := by
  refine whenReady_hornLaw h fun _ => ?_
  split
  · exact ite_hornLaw (enqueue_hornLaw _ (h.of_eq rfl rfl rfl rfl)) h
  · exact h

theorem execLineIdleGrant_hornLaw (h : HornLaw s) : HornLawAfter (execLineIdleGrant s) :=
  whenReady_hornLaw h fun _ => ite_hornLaw ((grant_frame _).hornLaw (h.of_eq rfl rfl rfl rfl)) h

theorem popPoll_hornLaw (h : HornLaw s) : HornLaw (popPoll s) := h.of_eq rfl rfl rfl rfl

theorem popOrder_hornLaw (h : HornLaw s) : HornLaw (popOrder s) := h.of_eq rfl rfl rfl rfl

theorem execLevelPollSent_hornLaw (h : HornLaw s) : HornLawAfter (execLevelPollSent s) := by
  refine whenReady_hornLaw h fun _ => ?_
  split
  · split
    · exact (fillPolls_frame _).hornLaw (levelPollTimed_hornLaw _ _ (popPoll_hornLaw h))
    · exact h
  · exact h

theorem execUnitPollSent_hornLaw (h : HornLaw s) : HornLawAfter (execUnitPollSent s) := by
  refine whenReady_hornLaw h fun _ => ?_
  split
  · split
    · exact (fillPolls_frame _).hornLaw (unitPollTimed_hornLaw _ _ (popPoll_hornLaw h))
    · exact h
  · exact h

theorem execUnitOrderSent_hornLaw (h : HornLaw s) : HornLawAfter (execUnitOrderSent s) := by
  refine whenReady_hornLaw h fun _ => ?_
  split
  · split
    · exact orderInFlight_hornLaw _ _ _ (popOrder_hornLaw h)
    · exact h
    · exact h
  · exact h

theorem execEnrolOfferSent_hornLaw (h : HornLaw s) : HornLawAfter (execEnrolOfferSent s) := by
  refine whenReady_hornLaw h fun _ => ?_
  split
  · split
    · exact (popOrder_hornLaw h).of_eq rfl rfl rfl rfl
    · exact h
    · exact h
  · exact h

theorem execEnrolReleaseSent_hornLaw (h : HornLaw s) : HornLawAfter (execEnrolReleaseSent s) := by
  refine whenReady_hornLaw h fun _ => ?_
  split
  · split
    · exact popOrder_hornLaw h
    · exact h
    · exact h
  · exact h

theorem execForwardedSent_hornLaw (h : HornLaw s) : HornLawAfter (execForwardedSent s) :=
  whenReady_hornLaw h fun _ => ite_hornLaw ((bump_frame _ _).hornLaw (h.of_eq rfl rfl rfl rfl)) h

/-- The RESTART sequence goes on without the controller being any less ready (R170). -/
theorem execReplySent_hornLaw (h : HornLaw s) : HornLawAfter (execReplySent s) := by
  refine whenReady_hornLaw h fun _ => ite_hornLaw ?_ h
  split
  · refine h.of_same (fun hready => ?_) ⟨rfl, rfl⟩ rfl fun _ _ hu => hu
    unfold restartReplied
    split <;> exact hready
  · exact h

/-! ## The commands of the Level Voter and the Limits Unit -/

theorem execLevelReport_hornLaw (src : Octet) (payload : List Octet) (h : HornLaw s) :
    HornLawAfter (execLevelReport src payload s) := by
  refine whenReady_hornLaw h fun _ => ?_
  dsimp only
  split
  · exact takeReading_hornLaw _ payload (takeDelivered_hornLaw _ h)
  · exact takeDelivered_hornLaw _ h

theorem execSupplyLimit_hornLaw (payload : List Octet) (h : HornLaw s) : HornLawAfter (execSupplyLimit payload s) :=
  whenReady_hornLaw h fun _ =>
    ite_hornLaw (supplyTaken_hornLaw _ (takeDelivered_hornLaw _ h)) (takeDelivered_hornLaw _ h)

theorem execPermitSet_hornLaw (payload : List Octet) (h : HornLaw s) : HornLawAfter (execPermitSet payload s) :=
  whenReady_hornLaw h fun _ =>
    ite_hornLaw (formCap_hornLaw (h.of_eq rfl rfl rfl rfl)) (takeDelivered_hornLaw _ h)

theorem execPermitHold_hornLaw (payload : List Octet) (h : HornLaw s) : HornLawAfter (execPermitHold payload s) :=
  whenReady_hornLaw h fun _ =>
    ite_hornLaw (setHold_hornLaw true (takeDelivered_hornLaw _ h)) (takeDelivered_hornLaw _ h)

theorem execPermitRelease_hornLaw (payload : List Octet) (h : HornLaw s) :
    HornLawAfter (execPermitRelease payload s) :=
  whenReady_hornLaw h fun _ =>
    ite_hornLaw (setHold_hornLaw false (takeDelivered_hornLaw _ h)) (takeDelivered_hornLaw _ h)

/-! ## The commands of the Unit Controller -/

theorem execUnitReport_hornLaw (src : Octet) (payload : List Octet) (h : HornLaw s) :
    HornLawAfter (execUnitReport src payload s) := by
  refine whenReady_hornLaw h fun _ => ?_
  dsimp only
  split
  · exact unitEvent_hornLaw _ (takeReport_hornLaw _ _ (takeDelivered_hornLaw _ h))
  · exact takeDelivered_hornLaw _ h

theorem execUnitPollTimeout_hornLaw (n : Nat) (h : HornLaw s) : HornLawAfter (execUnitPollTimeout n s) :=
  onUnit_hornLaw n h fun u => ite_hornLaw (unitEvent_hornLaw u (unitPollMissed_hornLaw u h)) h

theorem execOrderReplyTimeout_hornLaw (n : Nat) (h : HornLaw s) : HornLawAfter (execOrderReplyTimeout n s) :=
  onUnit_hornLaw n h fun u => ite_hornLaw (unitEvent_hornLaw u (orderUnanswered_hornLaw u h)) h

theorem execStartConfirmExpiry_hornLaw (n : Nat) (h : HornLaw s) : HornLawAfter (execStartConfirmExpiry n s) :=
  onUnit_hornLaw n h fun u => ite_hornLaw (unitEvent_hornLaw u (declareFailure_hornLaw u _ h)) h

theorem execRestageConfirmExpiry_hornLaw (n : Nat) (h : HornLaw s) : HornLawAfter (execRestageConfirmExpiry n s) :=
  onUnit_hornLaw n h fun u => ite_hornLaw (unitEvent_hornLaw u (declareFailure_hornLaw u _ h))
    (ite_hornLaw (unitEvent_hornLaw u (declareFailure_hornLaw u _ h)) h)

theorem execStopConfirmExpiry_hornLaw (n : Nat) (h : HornLaw s) : HornLawAfter (execStopConfirmExpiry n s) :=
  onUnit_hornLaw n h fun u => ite_hornLaw (unitEvent_hornLaw u (declareFailure_hornLaw u _ h)) h

theorem execRestTimerExpiry_hornLaw (n : Nat) (h : HornLaw s) : HornLawAfter (execRestTimerExpiry n s) :=
  onUnit_hornLaw n h fun _ => ite_hornLaw ((trigger_frame _).hornLaw (moveUnit_hornLaw none rfl h)) h

theorem execMinimumRunExpiry_hornLaw (n : Nat) (h : HornLaw s) : HornLawAfter (execMinimumRunExpiry n s) :=
  onUnit_hornLaw n h fun _ => ite_hornLaw ((trigger_frame _).hornLaw (setUnit_hornLaw id h)) h

theorem execEnrolTake_hornLaw (src : Octet) (payload : List Octet) (h : HornLaw s) :
    HornLawAfter (execEnrolTake src payload s) := by
  have htaken : ∀ p, HornLaw (takeDelivered p s) := fun p => takeDelivered_hornLaw p h
  refine whenReady_hornLaw h fun _ => ?_
  dsimp only
  split
  · split
    · rename_i hvacant
      simp only [Bool.and_eq_true, decide_eq_true_eq] at hvacant
      exact enrolUnit_hornLaw _ hvacant.2 (htaken _)
    · exact htaken _
  · exact htaken _

theorem execEnrolOfferReturn_hornLaw (h : HornLaw s) : HornLawAfter (execEnrolOfferReturn s) :=
  whenReady_hornLaw h fun _ =>
    ite_hornLaw (endEnrolment_hornLaw (takeDelivered_hornLaw _ h)) (takeDelivered_hornLaw _ h)

/-! ## The commands of the Dispatch Engine and the horn -/

theorem execEvaluation_hornLaw (h : HornLaw s) : HornLawAfter (execEvaluation s) :=
  whenReady_hornLaw h fun _ => ite_hornLaw h (stages_hornLaw (h.of_eq rfl rfl rfl rfl))

theorem execConfirmingEnd_hornLaw (h : HornLaw s) : HornLawAfter (execConfirmingEnd s) := by
  refine whenReady_hornLaw h fun hready => ?_
  split
  · rename_i c hc
    exact ite_hornLaw (endConfirming_hornLaw hready hc h) h
  · exact h

/-- The warning period's expiry makes the horn line inactive before the candidate is looked at (R148). -/
theorem execWarningTimerExpiry_hornLaw (h : HornLaw s) : HornLawAfter (execWarningTimerExpiry s) :=
  whenReady_hornLaw h fun _ => ite_hornLaw (endWarned_hornLaw (HornSilent.hornLaw ⟨rfl, rfl⟩)) h

theorem execSpacingTimerExpiry_hornLaw (h : HornLaw s) : HornLawAfter (execSpacingTimerExpiry s) :=
  whenReady_hornLaw h fun _ => ite_hornLaw ((trigger_frame _).hornLaw (h.of_eq rfl rfl rfl rfl)) h

theorem execHornRearmExpiry_hornLaw (h : HornLaw s) : HornLawAfter (execHornRearmExpiry s) :=
  whenReady_hornLaw h fun _ => ite_hornLaw (h.of_same id ⟨rfl, rfl⟩ rfl fun _ _ hu => hu) h

theorem execManualOrder_hornLaw (payload : List Octet) (ha : AllowanceLaw s) (h : HornLaw s) :
    HornLawAfter (request kindManualOrder payload (manualOrder payload) s) :=
  request_hornLaw h fun p => manualOrder_keepsHornLaw payload ha (takeDelivered_hornLaw p h)

/-! ## The steps of the board -/

theorem execRestartRelayClose_hornLaw (pins : LineRate) (h : HornLaw s) :
    HornLawAfter (execRestartRelayClose pins s) := by
  have hs : HornSilent (controllerReset pins s) := controllerReset_hornSilent pins s
  refine whenReady_hornLaw h fun _ => ite_hornLaw ?_ h
  dsimp only
  generalize controllerReset pins s = w at hs ⊢
  exact HornSilent.hornLaw hs

/-- The end of the hold leaves a ready controller ready (R170). -/
theorem execResetHoldExpiry_hornLaw (h : HornLaw s) : HornLawAfter (execResetHoldExpiry s) := by
  refine hornLawAfter_next (h.of_same (fun hready => ?_) ⟨rfl, rfl⟩ rfl fun _ _ hu => hu)
  simp_all [State.ready]

theorem execBypassRelayOpen_hornLaw (h : HornLaw s) : HornLawAfter (execBypassRelayOpen s) :=
  whenReady_hornLaw h fun _ =>
    ite_hornLaw ((grant_frame _).hornLaw (h.of_same id ⟨rfl, rfl⟩ rfl fun _ _ hu => hu)) h

/-- With power a reset is taken; without it no warning period ran (R147, R169). -/
theorem execResetInput_hornLaw (pins : LineRate) (h : HornLaw s) : HornLawAfter (execResetInput pins s) := by
  refine hornLawAfter_next (ite_hornLaw h ?_)
  dsimp only
  split
  · exact (controllerReset_hornSilent pins _).hornLaw
  · rename_i hpower
    exact HornSilent.hornLaw (h.silent_of_not_ready (by simp_all [State.ready]))

theorem execResetInputRelease_hornLaw (h : HornLaw s) : HornLawAfter (execResetInputRelease s) := by
  refine hornLawAfter_next (h.of_same (fun hready => ?_) ⟨rfl, rfl⟩ rfl fun _ _ hu => hu)
  simp_all [State.ready]

theorem execPowerOn_hornLaw (pins : LineRate) (h : HornLaw s) : HornLawAfter (execPowerOn pins s) :=
  hornLawAfter_next (ite_hornLaw h (controllerReset_hornSilent pins _).hornLaw)

theorem execPowerLoss_hornLaw (h : HornLaw s) : HornLawAfter (execPowerLoss s) :=
  hornLawAfter_next (ite_hornLaw (HornSilent.hornLaw ⟨rfl, rfl⟩) h)

/-! ## Every step -/

theorem tableWriting_hornLaw (payload : List Octet) (h : HornLaw s) :
    HornLawAfter (request kindTableWrite payload (tableWrite payload) s) :=
  request_hornLaw h fun _ => tableWrite_keepsHornLaw payload _

/-- Every command keeps the law of the horn line, from a state that obeys the law of the allowance. -/
theorem exec_hornLaw (c : Instr) (ha : AllowanceLaw s) (h : HornLaw s) : HornLawAfter (exec c s) := by
  cases c with
  | receiveTelegram octets => exact execReceiveTelegram_hornLaw octets h
  | receiveSilence => exact execReceiveSilence_hornLaw h
  | classification => exact whenReady_hornLaw h fun _ => classify_hornLaw h
  | levelReport src payload => exact execLevelReport_hornLaw src payload h
  | staleTimerExpiry n => exact onGauge_hornLaw n h fun g => staleExpiry_hornLaw g h
  | lostTimerExpiry n => exact onPoint_hornLaw n h fun p => lostExpiry_hornLaw p h
  | gaugePollTimerExpiry => exact whenReady_hornLaw h fun _ => gaugePollExpiry_hornLaw h
  | backgroundPollTimeout n => exact onGauge_hornLaw n h fun g => backgroundTimeout_hornLaw g h
  | demandPollTimeout n => exact onGauge_hornLaw n h fun g => demandTimeout_hornLaw g h
  | unitReport src payload => exact execUnitReport_hornLaw src payload h
  | unitPollTimerExpiry => exact whenReady_hornLaw h fun _ => unitPollExpiry_hornLaw h
  | unitPollTimeout n => exact execUnitPollTimeout_hornLaw n h
  | orderReplyTimeout n => exact execOrderReplyTimeout_hornLaw n h
  | startConfirmExpiry n => exact execStartConfirmExpiry_hornLaw n h
  | restageConfirmExpiry n => exact execRestageConfirmExpiry_hornLaw n h
  | stopConfirmExpiry n => exact execStopConfirmExpiry_hornLaw n h
  | restTimerExpiry n => exact execRestTimerExpiry_hornLaw n h
  | minimumRunExpiry n => exact execMinimumRunExpiry_hornLaw n h
  | enrolTake src payload => exact execEnrolTake_hornLaw src payload h
  | enrolOfferReturn => exact execEnrolOfferReturn_hornLaw h
  | enrolmentTimerExpiry => exact whenReady_hornLaw h fun _ => ite_hornLaw (endEnrolment_hornLaw h) h
  | supplyLimit payload => exact execSupplyLimit_hornLaw payload h
  | supplySilenceExpiry => exact whenReady_hornLaw h fun _ => ite_hornLaw (supplySilence_hornLaw h) h
  | permitSet payload => exact execPermitSet_hornLaw payload h
  | permitHold payload => exact execPermitHold_hornLaw payload h
  | permitRelease payload => exact execPermitRelease_hornLaw payload h
  | evaluation => exact execEvaluation_hornLaw h
  | confirmingEnd => exact execConfirmingEnd_hornLaw h
  | warningTimerExpiry => exact execWarningTimerExpiry_hornLaw h
  | spacingTimerExpiry => exact execSpacingTimerExpiry_hornLaw h
  | hornRearmExpiry => exact execHornRearmExpiry_hornLaw h
  | tableWriteStation payload | tableWriteGauge payload | tableWriteRiver payload | tableWriteBasin payload
  | tableWriteType payload | tableWriteUnit payload | tableWritePart payload => exact tableWriting_hornLaw payload h
  | tableRead payload => exact request_hornLaw h fun _ => tableReading_keepsHornLaw payload _
  | modeSet payload => exact request_hornLaw h fun _ => modeSetting_keepsHornLaw payload _
  | manualOrderStart payload | manualOrderRestageHigh payload | manualOrderRestageLow payload
  | manualOrderStop payload | manualOrderHalt payload => exact execManualOrder_hornLaw payload ha h
  | unitServiceOut payload | unitServiceIn payload =>
    exact request_hornLaw h fun _ => unitService_keepsHornLaw payload _
  | tripClear payload =>
    exact request_hornLaw h fun _ => aboutUnit_keepsHornLaw payload fun u => tripClearVerdict_keepsHornLaw u _
  | stationQuery payload => exact request_hornLaw h fun _ => stationQuery_keepsHornLaw payload _
  | pointQuery payload => exact request_hornLaw h fun _ => pointQuery_keepsHornLaw payload _
  | unitQuery payload =>
    exact request_hornLaw h fun _ => aboutUnit_keepsHornLaw payload fun _ => answered_keepsHornLaw fun _ hw => hw
  | conditionClear payload => exact request_hornLaw h fun _ => conditionClearing_keepsHornLaw payload _
  | counterRead payload | counterReadClear payload =>
    exact request_hornLaw h fun _ => counterReading_keepsHornLaw payload _
  | enrolStart payload | enrolRelease payload => exact request_hornLaw h fun _ => enrolRequest_keepsHornLaw payload _
  | restart payload => exact request_hornLaw h fun _ => restarting_keepsHornLaw payload _
  | lineIdleGrant => exact execLineIdleGrant_hornLaw h
  | levelPollSent => exact execLevelPollSent_hornLaw h
  | unitPollSent => exact execUnitPollSent_hornLaw h
  | unitOrderSent => exact execUnitOrderSent_hornLaw h
  | enrolOfferSent => exact execEnrolOfferSent_hornLaw h
  | enrolReleaseSent => exact execEnrolReleaseSent_hornLaw h
  | forwardedSent => exact execForwardedSent_hornLaw h
  | replySent => exact execReplySent_hornLaw h
  | restartRelayClose pins => exact execRestartRelayClose_hornLaw pins h
  | resetHoldExpiry => exact execResetHoldExpiry_hornLaw h
  | bypassRelayOpen => exact execBypassRelayOpen_hornLaw h
  | resetInput pins => exact execResetInput_hornLaw pins h
  | powerOn pins => exact execPowerOn_hornLaw pins h
  | powerLoss => exact execPowerLoss_hornLaw h
  | resetInputRelease => exact execResetInputRelease_hornLaw h

theorem tick_hornLaw (h : HornLaw s) : HornLaw (tick s) := ite_hornLaw (h.of_eq rfl rfl rfl rfl) h

end Sys2Proof.Machine

namespace Sys2Proof.Machine

open Sys2Proof

/-- Settles O7: a step is a command or the passing of a second, and each keeps the law. Of the laws of dispatch that of
the allowance is used, for a manual START: with the allowance free no candidate is in WARNING (R95, R119). -/
theorem hornLineFollowsTheWarningPeriod : Obligations.HornLineFollowsTheWarningPeriod := by
  rintro s ⟨-, ha, -, -⟩ h t ht
  unfold step at ht
  split at ht
  · exact Host.Outcome.next.inj ht ▸ tick_hornLaw h
  · rename_i c l _
    exact exec_hornLaw (s := { s with pending := l }) c ha (h.of_eq rfl rfl rfl rfl) t ht

end Sys2Proof.Machine
end

section
/-! The station record (R131, R136, R175): B and C as they are formed, the record's application, its checks in their
order, and the taking and answering of a request whose effect lets the reply queue be (R172). -/

namespace Sys2Proof.Machine

open Sys2Proof

/-! ## B and C are formed (R125, R136) -/

theorem limitsTriggered_frame (l : Limits) (s : State) :
    unchangedBut [.limits, .evaluations] s (trigger { s with limits := l }) := by
  refine unchangedBut_trans ?_ (unchangedBut_mono (trigger_frame _) (by simp))
  intro p hp
  cases p with
  | limits => exact absurd hp (by simp)
  | _ => simp [same]

theorem formBudget_limits (s : State) : (formBudget s).limits = { s.limits with budget := budgetOf s } := by
  unfold formBudget
  split
  · next hsame => rw [hsame]
  · rfl

theorem formBudget_evalDue (s : State) :
    (formBudget s).evalDue = s.evalDue + (if budgetOf s = s.limits.budget then 0 else 1) := by
  unfold formBudget
  split <;> rfl

theorem formBudget_frame (s : State) : unchangedBut [.limits, .evaluations] s (formBudget s) := by
  unfold formBudget
  split
  · exact unchangedBut_refl _ s
  · exact limitsTriggered_frame _ s

/-- The cap reads nothing that the budget in force is formed of. -/
theorem capOf_formBudget (s : State) : capOf (formBudget s) = capOf s := by
  simp only [capOf, formBudget_limits]

theorem formCap_limits (s : State) : (formCap s).limits = { s.limits with cap := capOf s } := by
  unfold formCap
  split
  · next hsame => rw [hsame]
  · rfl

theorem formCap_evalDue (s : State) :
    (formCap s).evalDue = s.evalDue + (if capOf s = s.limits.cap then 0 else 1) := by
  unfold formCap
  split <;> rfl

theorem formCap_frame (s : State) : unchangedBut [.limits, .evaluations] s (formCap s) := by
  unfold formCap
  split
  · exact unchangedBut_refl _ s
  · exact limitsTriggered_frame _ s

/-! ## The record is applied (R131, R136, R175) -/

/-- The Limits Unit with a station record taken up: its new fields first, then B and C of them. -/
def limitsTakenUp (old r : StationRec) (l : Limits) : Limits :=
  let l' := limitsRewritten old r l
  { l' with budget := min r.ceiling l'.supplyLimit, cap := if l'.hold then 0 else l'.permit }

theorem applyStation_limits (r : StationRec) (s : State) :
    (applyStation r s).limits = limitsTakenUp s.store.station r s.limits := by
  rw [applyStation, formCap_limits, capOf_formBudget, formBudget_limits]
  rfl

theorem applyStation_evalDue (r : StationRec) (s : State) :
    (applyStation r s).evalDue
      = s.evalDue + (if (limitsTakenUp s.store.station r s.limits).budget = s.limits.budget then 0 else 1)
        + (if (limitsTakenUp s.store.station r s.limits).cap = s.limits.cap then 0 else 1) := by
  rw [applyStation, formCap_evalDue, capOf_formBudget, formBudget_evalDue, formBudget_limits]
  rfl

/-- The record and what follows from it in the Limits Unit: all but the store, the limits and the triggers stands. -/
theorem applyStation_frame (r : StationRec) (s : State) :
    unchangedBut [.store, .limits, .evaluations] s (applyStation r s) := by
  refine unchangedBut_trans ?_ (unchangedBut_mono (unchangedBut_trans (formBudget_frame _) (formCap_frame _)) (by simp))
  intro p hp
  cases p with
  | store | limits => exact absurd hp (by simp)
  | _ => simp [same]

theorem applyStation_store (r : StationRec) (s : State) :
    (applyStation r s).store = { s.store with station := r } :=
  unchangedBut_trans (formBudget_frame _) (formCap_frame _) .store (by simp)

/-! ## The checks of a write, in their order (R175) -/

theorem stationInRange_iff (r : StationRec) : stationInRange r = true ↔ stationRanges r := by
  simp [stationInRange, stationRanges, within, and_assoc]

/-- A payload that carries one station record whole goes to the rule of that record (R174, R187). -/
theorem tableWrite_station (record : Octet) {octets : List Octet} (hlength : octets.length = 24) (s : State) :
    tableWrite (1#8 :: record :: 1#8 :: octets) s = writeStation record.toNat octets s := by
  simp [tableWrite, recordLength, hasPart, partCount, partLength, partNamed, hlength, writePart, writeRecord]

theorem writeStation_unknown {record : Nat} (hrecord : record ≠ 0) (octets : List Octet) (s : State) :
    writeStation record octets s = refused .unknown := if_pos hrecord

theorem writeStation_mode {s : State} (hmode : s.station.mode ≠ .setup) (octets : List Octet) :
    writeStation 0 octets s = refused .mode := by
  simp [writeStation, hmode]

theorem writeStation_range {octets : List Octet} {s : State} (hmode : s.station.mode = .setup)
    (hout : ∀ r, stationOf octets = some r → ¬ stationRanges r) :
    writeStation 0 octets s = refused .range := by
  cases hread : stationOf octets with
  | none => simp [writeStation, hmode, hread]
  | some r => simp [writeStation, hmode, hread, stationInRange_iff, hout r hread]

theorem writeStation_accepted {octets : List Octet} {r : StationRec} {s : State} (hmode : s.station.mode = .setup)
    (hread : stationOf octets = some r) (hin : stationRanges r) :
    writeStation 0 octets s = accepted (applyStation r) := by
  simp [writeStation, hmode, hread, (stationInRange_iff r).mpr hin]

/-! ## A request taken and answered (R172) -/

/-- The state in which the effect of a request acts: the request gone from the delivered telegrams, its reply in its
place and not yet deposited. -/
def replyPlaced (kind : Octet) (payload : List Octet) (v : Verdict) (s : State) : State :=
  holdReply (replyEntry kind v) (takeDelivered (sameTelegram kind addrSupervisor payload) s)

/-- The state that a request taken leaves. -/
def afterRequest (kind : Octet) (payload : List Octet) (v : Verdict) (s : State) : State :=
  releaseReply (v.effect (replyPlaced kind payload v s))

section
variable {kind : Octet} {payload : List Octet} {v : Verdict} {s : State}

theorem request_afterRequest (h : takes kind payload s) (rule : State → Verdict) :
    request kind payload rule s
      = .next (afterRequest kind payload (rule (takeDelivered (sameTelegram kind addrSupervisor payload) s)) s) :=
  request_taken h rule

theorem replyPlaced_frame : unchangedBut answering s (replyPlaced kind payload v s) := by
  intro p hp
  cases p with
  | delivered | replies | line => exact absurd hp (by simp [answering])
  | _ => simp [same, replyPlaced]

theorem releaseReply_frame (w : State) : unchangedBut [.line] w (releaseReply w) := by
  refine unchangedBut_trans ?_ (grant_frame _)
  intro p hp
  cases p with
  | line => exact absurd hp (by simp)
  | _ => simp [same]

theorem afterRequest_frame {parts : List Part} (heffect : ∀ w, unchangedBut parts w (v.effect w)) :
    unchangedBut (answering ++ parts) s (afterRequest kind payload v s) :=
  unchangedBut_trans (unchangedBut_mono replyPlaced_frame fun _ => List.mem_append_left _)
    (unchangedBut_trans (unchangedBut_mono (heffect _) fun _ => List.mem_append_right _)
      (unchangedBut_mono (releaseReply_frame _) (by simp [answering])))

/-- An effect that lets the reply queue be leaves the reply at its tail, with no ATTENTION after it. -/
theorem afterRequest_answered {parts : List Part} (heffect : ∀ w, unchangedBut parts w (v.effect w))
    (hreplies : .replies ∉ parts) : answeredWith kind v.kind v.body s (afterRequest kind payload v s) := by
  have hqueue : (afterRequest kind payload v s).ring.replies = s.ring.replies ++ [replyEntry kind v] :=
    (releaseReply_frame _ .replies (by simp)).trans (heffect _ .replies hreplies)
  exact ⟨v.restart, [], hqueue, rfl⟩

theorem afterRequest_refused (r : Reason) :
    isRefused kind r s (afterRequest kind payload (refused r) s)
    ∧ unchangedBut answering s (afterRequest kind payload (refused r) s) :=
  have hnone : ∀ w, unchangedBut [] w ((refused r).effect w) := unchangedBut_refl []
  ⟨afterRequest_answered hnone (by simp), afterRequest_frame hnone⟩

end

/-! ## The write of the station record -/

/-- A TABLE WRITE of the station record, answered by the record's own rule. -/
theorem exec_tableWriteStation {record : Octet} {octets : List Octet} {s : State} (hlength : octets.length = 24)
    (htakes : takes kindTableWrite (1#8 :: record :: 1#8 :: octets) s) :
    exec (.tableWriteStation (1#8 :: record :: 1#8 :: octets)) s
      = .next (afterRequest kindTableWrite (1#8 :: record :: 1#8 :: octets)
          (writeStation record.toNat octets s) s) := by
  have htaken := request_afterRequest htakes (tableWrite (1#8 :: record :: 1#8 :: octets))
  rwa [tableWrite_station record hlength] at htaken

/-- What an accepted write of the station record leaves, part by part: no part of the state that the record's
application reads or sets is among those that the answer moves. -/
theorem afterRequest_applyStation (kind : Octet) (payload : List Octet) (r : StationRec) (s : State) :
    (afterRequest kind payload (accepted (applyStation r)) s).store = { s.store with station := r }
    ∧ (afterRequest kind payload (accepted (applyStation r)) s).limits = limitsTakenUp s.store.station r s.limits
    ∧ (afterRequest kind payload (accepted (applyStation r)) s).evalDue
      = s.evalDue + (if (limitsTakenUp s.store.station r s.limits).budget = s.limits.budget then 0 else 1)
        + (if (limitsTakenUp s.store.station r s.limits).cap = s.limits.cap then 0 else 1) :=
  ⟨(releaseReply_frame _ .store (by simp)).trans (applyStation_store r _),
    (releaseReply_frame _ .limits (by simp)).trans (applyStation_limits r _),
    (releaseReply_frame _ .evaluations (by simp)).trans (applyStation_evalDue r _)⟩

/-- Settles O50: the checks in their order, each with its refusal, then the record's application. -/
theorem stationRecordIsWritten : Obligations.StationRecordIsWritten := by
  refine ⟨rfl, fun record octets s hlength htakes => ⟨_, exec_tableWriteStation hlength htakes, ?_⟩⟩
  split
  · next hrecord =>
    rw [writeStation_unknown (fun h => hrecord (BitVec.eq_of_toNat_eq h))]
    exact afterRequest_refused .unknown
  next hrecord =>
  obtain rfl : record = 0#8 := Classical.not_not.mp hrecord
  split
  · next hmode =>
    rw [BitVec.toNat_zero, writeStation_mode hmode]
    exact afterRequest_refused .mode
  next hmode =>
  rw [BitVec.toNat_zero]
  have hsetup : s.station.mode = .setup := Classical.not_not.mp hmode
  constructor
  · intro hout
    rw [writeStation_range hsetup hout]
    exact afterRequest_refused .range
  · intro r hread hin
    rw [writeStation_accepted hsetup hread hin]
    obtain ⟨hstore, hlimits, hevaluations⟩ :=
      afterRequest_applyStation kindTableWrite (1#8 :: 0#8 :: 1#8 :: octets) r s
    rw [hstore, hlimits, hevaluations]
    exact ⟨afterRequest_answered (applyStation_frame r) (by simp), rfl, rfl, rfl, rfl, rfl, rfl, rfl, rfl, rfl, rfl,
      afterRequest_frame (applyStation_frame r)⟩

end Sys2Proof.Machine
end
